-- ==== Sys2Proof/Word.lean ====
section
/-!
DEFINITION. The word types of the core (spec/00_scope.md R6, R11).

Every quantity of this hardware is an unsigned bit vector; there is no signed value and no sign extension (R11, R171).
-/

namespace Sys2Proof

/-- A byte: a general register, a timer, a memory cell (R6, R20, R27, R30). -/
abbrev Byte := BitVec 8

/-- A 16-bit word: the instruction word, I, PC, a stack entry (R6, R22, R23, R25). -/
abbrev Word := BitVec 16

/-- A 4-bit field: a register index `x` or `y`, the sprite height `n`, a key id (R91, R240). -/
abbrev Nibble := BitVec 4

/-- A 12-bit address field `nnn` (R91). -/
abbrev Addr := BitVec 12

end Sys2Proof
end

