-- ==== Sys2Proof/Syntax.lean ====
section
/-!
DEFINITION. The instructions of the core: one constructor per row of spec/opcode_table.json, in the table's order
(spec/30_encoding.md R97).

A word's ignored bits (R94, R95: `op[11:8]` in class 0, the low nibble in classes 5 and 9) are the last operand of
the four instructions that have them, so that an instruction says exactly which word it was (log 7).
-/

namespace Sys2Proof

/-- The instruction set: 34 instructions (R2, R97). -/
inductive Instr where
  /-- `00E0` clear display; `ign` is the ignored `op[11:8]` (R200, R95). -/
  | cls (ign : Nibble)
  /-- `00EE` return; `ign` is the ignored `op[11:8]` (R140, R95). -/
  | ret (ign : Nibble)
  /-- `1nnn` jump (R141). -/
  | jp (nnn : Addr)
  /-- `2nnn` call (R142). -/
  | call (nnn : Addr)
  /-- `3xkk` skip if Vx = kk (R144). -/
  | seImm (x : Nibble) (kk : Byte)
  /-- `4xkk` skip if Vx ≠ kk (R145). -/
  | sneImm (x : Nibble) (kk : Byte)
  /-- `5xy0` skip if Vx = Vy; `ign` is the ignored low nibble (R146, R94). -/
  | seReg (x y : Nibble) (ign : Nibble)
  /-- `6xkk` load immediate (R160). -/
  | ldImm (x : Nibble) (kk : Byte)
  /-- `7xkk` add immediate (R161). -/
  | addImm (x : Nibble) (kk : Byte)
  /-- `8xy0` register-to-register set (R162). -/
  | ldReg (x y : Nibble)
  /-- `8xy1` or (R163). -/
  | orReg (x y : Nibble)
  /-- `8xy2` and (R164). -/
  | andReg (x y : Nibble)
  /-- `8xy3` xor (R165). -/
  | xorReg (x y : Nibble)
  /-- `8xy4` add registers (R166). -/
  | addReg (x y : Nibble)
  /-- `8xy5` subtract Vx − Vy (R167). -/
  | subReg (x y : Nibble)
  /-- `8xy6` shift right: Vx := Vy >> 1 (R168). -/
  | shr (x y : Nibble)
  /-- `8xy7` reverse-subtract Vy − Vx (R169). -/
  | subn (x y : Nibble)
  /-- `8xyE` shift left: Vx := Vy << 1 (R170). -/
  | shl (x y : Nibble)
  /-- `9xy0` skip if Vx ≠ Vy; `ign` is the ignored low nibble (R147, R94). -/
  | sneReg (x y : Nibble) (ign : Nibble)
  /-- `Annn` load index (R180). -/
  | ldI (nnn : Addr)
  /-- `Bnnn` jump to nnn + V0 (R143). -/
  | jpV0 (nnn : Addr)
  /-- `Cxkk` random byte AND kk (R217). -/
  | rnd (x : Nibble) (kk : Byte)
  /-- `Dxyn` draw an 8 × n sprite (R201). -/
  | drw (x y n : Nibble)
  /-- `Ex9E` skip if key Vx is pressed (R210). -/
  | skp (x : Nibble)
  /-- `ExA1` skip if key Vx is not pressed (R211). -/
  | sknp (x : Nibble)
  /-- `Fx07` load the delay timer into Vx (R212). -/
  | ldVxDt (x : Nibble)
  /-- `Fx0A` wait for a key (R215). -/
  | ldVxK (x : Nibble)
  /-- `Fx15` set the delay timer (R213). -/
  | ldDtVx (x : Nibble)
  /-- `Fx18` set the sound timer (R214). -/
  | ldStVx (x : Nibble)
  /-- `Fx1E` add Vx to I (R181). -/
  | addI (x : Nibble)
  /-- `Fx29` load the font glyph address (R182). -/
  | ldF (x : Nibble)
  /-- `Fx33` store BCD digits (R183). -/
  | ldB (x : Nibble)
  /-- `Fx55` register dump V0..Vx (R184). -/
  | ldMemVx (x : Nibble)
  /-- `Fx65` register load V0..Vx (R185). -/
  | ldVxMem (x : Nibble)
  deriving DecidableEq, Repr

end Sys2Proof
end

