-- ==== Sys2Proof/Decode.lean ====
section
/-!
DEFINITION. The decoder, total on every word and every list of bytes, the encoder, and the opcode map
(spec/30_encoding.md R90 to R98).

The decoder is the spec's two-level dispatch (R94, R95, R124). The opcode map `opcodeMap` is R97's table of masks and
matches, kept as data; that the two agree is a statement, not a definition. The numbers themselves are PRESUMED: the
spec gives them from general knowledge (R97, D12, G1; log 6).
-/

namespace Sys2Proof

/-! ## Fields of the instruction word (R91) -/

/-- The class `c`, the top nibble `op[15:12]` (R91, R94). -/
def fieldC (op : Word) : Nibble := op.extractLsb' 12 4

/-- `x = op[11:8]` (R91). -/
def fieldX (op : Word) : Nibble := op.extractLsb' 8 4

/-- `y = op[7:4]` (R91). -/
def fieldY (op : Word) : Nibble := op.extractLsb' 4 4

/-- `n = op[3:0]` (R91; its place is D14, log 17). -/
def fieldN (op : Word) : Nibble := op.extractLsb' 0 4

/-- `kk = op[7:0]` (R91). -/
def fieldKK (op : Word) : Byte := op.extractLsb' 0 8

/-- `nnn = op[11:0]` (R91). -/
def fieldNNN (op : Word) : Addr := op.extractLsb' 0 12

/-! ## Rejections -/

/-- Why bytes are no instruction of the table. -/
inductive DecodeError where
  /-- The word is an unrecognized opcode (R96). It is no fault: the step gives it R125's effect. -/
  | unrecognized (op : Word)
  /-- Fewer than two bytes are there, and an instruction is exactly two (R90). -/
  | truncated
  deriving DecidableEq, Repr

/-! ## The two-level dispatch (R94, R95) -/

/-- Class 0 dispatches on the low byte; `op[11:8]` takes no part (R95). -/
def decodeClass0 (op : Word) : Except DecodeError Instr :=
  if fieldKK op = 0xE0#8 then .ok (.cls (fieldX op))
  else if fieldKK op = 0xEE#8 then .ok (.ret (fieldX op))
  else .error (.unrecognized op)

/-- Class 8 dispatches on the low nibble (R95). -/
def decodeClass8 (op : Word) : Except DecodeError Instr :=
  if fieldN op = 0x0#4 then .ok (.ldReg (fieldX op) (fieldY op))
  else if fieldN op = 0x1#4 then .ok (.orReg (fieldX op) (fieldY op))
  else if fieldN op = 0x2#4 then .ok (.andReg (fieldX op) (fieldY op))
  else if fieldN op = 0x3#4 then .ok (.xorReg (fieldX op) (fieldY op))
  else if fieldN op = 0x4#4 then .ok (.addReg (fieldX op) (fieldY op))
  else if fieldN op = 0x5#4 then .ok (.subReg (fieldX op) (fieldY op))
  else if fieldN op = 0x6#4 then .ok (.shr (fieldX op) (fieldY op))
  else if fieldN op = 0x7#4 then .ok (.subn (fieldX op) (fieldY op))
  else if fieldN op = 0xE#4 then .ok (.shl (fieldX op) (fieldY op))
  else .error (.unrecognized op)

/-- Class E dispatches on the low byte (R95). -/
def decodeClassE (op : Word) : Except DecodeError Instr :=
  if fieldKK op = 0x9E#8 then .ok (.skp (fieldX op))
  else if fieldKK op = 0xA1#8 then .ok (.sknp (fieldX op))
  else .error (.unrecognized op)

/-- Class F dispatches on the low byte (R95). -/
def decodeClassF (op : Word) : Except DecodeError Instr :=
  if fieldKK op = 0x07#8 then .ok (.ldVxDt (fieldX op))
  else if fieldKK op = 0x0A#8 then .ok (.ldVxK (fieldX op))
  else if fieldKK op = 0x15#8 then .ok (.ldDtVx (fieldX op))
  else if fieldKK op = 0x18#8 then .ok (.ldStVx (fieldX op))
  else if fieldKK op = 0x1E#8 then .ok (.addI (fieldX op))
  else if fieldKK op = 0x29#8 then .ok (.ldF (fieldX op))
  else if fieldKK op = 0x33#8 then .ok (.ldB (fieldX op))
  else if fieldKK op = 0x55#8 then .ok (.ldMemVx (fieldX op))
  else if fieldKK op = 0x65#8 then .ok (.ldVxMem (fieldX op))
  else .error (.unrecognized op)

/-- Decoding one 16-bit word: the primary dispatch on the top nibble (R94), the secondary one in the classes 0, 8, E
and F (R95). Reads nothing but the word (R124). -/
def decodeWord (op : Word) : Except DecodeError Instr :=
  if fieldC op = 0x0#4 then decodeClass0 op
  else if fieldC op = 0x1#4 then .ok (.jp (fieldNNN op))
  else if fieldC op = 0x2#4 then .ok (.call (fieldNNN op))
  else if fieldC op = 0x3#4 then .ok (.seImm (fieldX op) (fieldKK op))
  else if fieldC op = 0x4#4 then .ok (.sneImm (fieldX op) (fieldKK op))
  else if fieldC op = 0x5#4 then .ok (.seReg (fieldX op) (fieldY op) (fieldN op))
  else if fieldC op = 0x6#4 then .ok (.ldImm (fieldX op) (fieldKK op))
  else if fieldC op = 0x7#4 then .ok (.addImm (fieldX op) (fieldKK op))
  else if fieldC op = 0x8#4 then decodeClass8 op
  else if fieldC op = 0x9#4 then .ok (.sneReg (fieldX op) (fieldY op) (fieldN op))
  else if fieldC op = 0xA#4 then .ok (.ldI (fieldNNN op))
  else if fieldC op = 0xB#4 then .ok (.jpV0 (fieldNNN op))
  else if fieldC op = 0xC#4 then .ok (.rnd (fieldX op) (fieldKK op))
  else if fieldC op = 0xD#4 then .ok (.drw (fieldX op) (fieldY op) (fieldN op))
  else if fieldC op = 0xE#4 then decodeClassE op
  else decodeClassF op

/-- A field of a word: `f` with its lowest bit at bit `lo` (R11, R91). A concatenation is the OR of its fields. -/
def fieldAt {w : Nat} (f : BitVec w) (lo : Nat) : Word := f.setWidth 16 <<< lo

/-- The word of two consecutive bytes, the one at the lower address first: `op = hi ++ lo` (R60, R123). -/
def wordOfBytes (hi lo : Byte) : Word := fieldAt hi 8 ||| fieldAt lo 0

/-- Decoding a list of bytes, lowest address first: the instruction and the bytes after it (R60, R90). -/
def decode : List Byte → Except DecodeError (Instr × List Byte)
  | hi :: lo :: rest =>
    match decodeWord (wordOfBytes hi lo) with
    | .ok i => .ok (i, rest)
    | .error e => .error e
  | [_] => .error .truncated
  | [] => .error .truncated

/-! ## The encoder (R91, R92, R97) -/

/-- Format A: class, address (R92). -/
def formatA (c : Nibble) (nnn : Addr) : Word := fieldAt c 12 ||| fieldAt nnn 0

/-- Formats I and F: class, register (or ignored bits), immediate or function byte (R92). -/
def formatI (c x : Nibble) (kk : Byte) : Word := fieldAt c 12 ||| fieldAt x 8 ||| fieldAt kk 0

/-- Formats R and D: class, two registers, function nibble or height (or ignored bits) (R92). -/
def formatR (c x y n : Nibble) : Word := fieldAt c 12 ||| fieldAt x 8 ||| fieldAt y 4 ||| fieldAt n 0

/-- The word of an instruction (R97). -/
def encode : Instr → Word
  | .cls ign => formatI 0x0 ign 0xE0
  | .ret ign => formatI 0x0 ign 0xEE
  | .jp nnn => formatA 0x1 nnn
  | .call nnn => formatA 0x2 nnn
  | .seImm x kk => formatI 0x3 x kk
  | .sneImm x kk => formatI 0x4 x kk
  | .seReg x y ign => formatR 0x5 x y ign
  | .ldImm x kk => formatI 0x6 x kk
  | .addImm x kk => formatI 0x7 x kk
  | .ldReg x y => formatR 0x8 x y 0x0
  | .orReg x y => formatR 0x8 x y 0x1
  | .andReg x y => formatR 0x8 x y 0x2
  | .xorReg x y => formatR 0x8 x y 0x3
  | .addReg x y => formatR 0x8 x y 0x4
  | .subReg x y => formatR 0x8 x y 0x5
  | .shr x y => formatR 0x8 x y 0x6
  | .subn x y => formatR 0x8 x y 0x7
  | .shl x y => formatR 0x8 x y 0xE
  | .sneReg x y ign => formatR 0x9 x y ign
  | .ldI nnn => formatA 0xA nnn
  | .jpV0 nnn => formatA 0xB nnn
  | .rnd x kk => formatI 0xC x kk
  | .drw x y n => formatR 0xD x y n
  | .skp x => formatI 0xE x 0x9E
  | .sknp x => formatI 0xE x 0xA1
  | .ldVxDt x => formatI 0xF x 0x07
  | .ldVxK x => formatI 0xF x 0x0A
  | .ldDtVx x => formatI 0xF x 0x15
  | .ldStVx x => formatI 0xF x 0x18
  | .addI x => formatI 0xF x 0x1E
  | .ldF x => formatI 0xF x 0x29
  | .ldB x => formatI 0xF x 0x33
  | .ldMemVx x => formatI 0xF x 0x55
  | .ldVxMem x => formatI 0xF x 0x65

/-- The two bytes of a word, high byte first (R60, R90, R100). -/
def bytesOfWord (op : Word) : List Byte := [op.extractLsb' 8 8, op.extractLsb' 0 8]

/-- The bytes of an instruction as they stand in memory, lowest address first. -/
def encodeBytes (i : Instr) : List Byte := bytesOfWord (encode i)

/-! ## The opcode map as data (R97) -/

/-- A row of R97's table: a word `op` is the instruction when `op AND mask = pattern`. -/
structure OpcodeRow where
  mnemonic : String
  mask : Word
  pattern : Word
  deriving DecidableEq, Repr

/-- A word matches a row (R97). -/
def OpcodeRow.covers (r : OpcodeRow) (op : Word) : Bool := op &&& r.mask == r.pattern

/-- Rows 1 to 9 of R97. -/
def opcodeMapLow : List OpcodeRow :=
  [⟨"CLS", 0xF0FF, 0x00E0⟩, ⟨"RET", 0xF0FF, 0x00EE⟩, ⟨"JP_nnn", 0xF000, 0x1000⟩, ⟨"CALL_nnn", 0xF000, 0x2000⟩,
   ⟨"SE_Vx__kk", 0xF000, 0x3000⟩, ⟨"SNE_Vx__kk", 0xF000, 0x4000⟩, ⟨"SE_Vx__Vy", 0xF000, 0x5000⟩,
   ⟨"LD_Vx__kk", 0xF000, 0x6000⟩, ⟨"ADD_Vx__kk", 0xF000, 0x7000⟩]

/-- Rows 10 to 18 of R97, class 8. -/
def opcodeMapClass8 : List OpcodeRow :=
  [⟨"LD_Vx__Vy", 0xF00F, 0x8000⟩, ⟨"OR_Vx__Vy", 0xF00F, 0x8001⟩, ⟨"AND_Vx__Vy", 0xF00F, 0x8002⟩,
   ⟨"XOR_Vx__Vy", 0xF00F, 0x8003⟩, ⟨"ADD_Vx__Vy", 0xF00F, 0x8004⟩, ⟨"SUB_Vx__Vy", 0xF00F, 0x8005⟩,
   ⟨"SHR_Vx__Vy", 0xF00F, 0x8006⟩, ⟨"SUBN_Vx__Vy", 0xF00F, 0x8007⟩, ⟨"SHL_Vx__Vy", 0xF00F, 0x800E⟩]

/-- Rows 19 to 25 of R97. -/
def opcodeMapHigh : List OpcodeRow :=
  [⟨"SNE_Vx__Vy", 0xF000, 0x9000⟩, ⟨"LD_I__nnn", 0xF000, 0xA000⟩, ⟨"JP_V0__nnn", 0xF000, 0xB000⟩,
   ⟨"RND_Vx__kk", 0xF000, 0xC000⟩, ⟨"DRW_Vx__Vy__n", 0xF000, 0xD000⟩, ⟨"SKP_Vx", 0xF0FF, 0xE09E⟩,
   ⟨"SKNP_Vx", 0xF0FF, 0xE0A1⟩]

/-- Rows 26 to 34 of R97, class F. -/
def opcodeMapClassF : List OpcodeRow :=
  [⟨"LD_Vx__DT", 0xF0FF, 0xF007⟩, ⟨"LD_Vx__K", 0xF0FF, 0xF00A⟩, ⟨"LD_DT__Vx", 0xF0FF, 0xF015⟩,
   ⟨"LD_ST__Vx", 0xF0FF, 0xF018⟩, ⟨"ADD_I__Vx", 0xF0FF, 0xF01E⟩, ⟨"LD_F__Vx", 0xF0FF, 0xF029⟩,
   ⟨"LD_B__Vx", 0xF0FF, 0xF033⟩, ⟨"LD__I___Vx", 0xF0FF, 0xF055⟩, ⟨"LD_Vx___I", 0xF0FF, 0xF065⟩]

/-- R97's table. -/
def opcodeMap : List OpcodeRow := opcodeMapLow ++ opcodeMapClass8 ++ opcodeMapHigh ++ opcodeMapClassF

/-- The mnemonic of an instruction in spec/opcode_table.json. -/
def Instr.mnemonic : Instr → String
  | .cls _ => "CLS"
  | .ret _ => "RET"
  | .jp _ => "JP_nnn"
  | .call _ => "CALL_nnn"
  | .seImm _ _ => "SE_Vx__kk"
  | .sneImm _ _ => "SNE_Vx__kk"
  | .seReg _ _ _ => "SE_Vx__Vy"
  | .ldImm _ _ => "LD_Vx__kk"
  | .addImm _ _ => "ADD_Vx__kk"
  | .ldReg _ _ => "LD_Vx__Vy"
  | .orReg _ _ => "OR_Vx__Vy"
  | .andReg _ _ => "AND_Vx__Vy"
  | .xorReg _ _ => "XOR_Vx__Vy"
  | .addReg _ _ => "ADD_Vx__Vy"
  | .subReg _ _ => "SUB_Vx__Vy"
  | .shr _ _ => "SHR_Vx__Vy"
  | .subn _ _ => "SUBN_Vx__Vy"
  | .shl _ _ => "SHL_Vx__Vy"
  | .sneReg _ _ _ => "SNE_Vx__Vy"
  | .ldI _ => "LD_I__nnn"
  | .jpV0 _ => "JP_V0__nnn"
  | .rnd _ _ => "RND_Vx__kk"
  | .drw _ _ _ => "DRW_Vx__Vy__n"
  | .skp _ => "SKP_Vx"
  | .sknp _ => "SKNP_Vx"
  | .ldVxDt _ => "LD_Vx__DT"
  | .ldVxK _ => "LD_Vx__K"
  | .ldDtVx _ => "LD_DT__Vx"
  | .ldStVx _ => "LD_ST__Vx"
  | .addI _ => "ADD_I__Vx"
  | .ldF _ => "LD_F__Vx"
  | .ldB _ => "LD_B__Vx"
  | .ldMemVx _ => "LD__I___Vx"
  | .ldVxMem _ => "LD_Vx___I"

/-! ## The host's view of the decoder -/

/-- The word whose bits are the low `nbits` bits of `w`, numbered as spec/opcode_table.json numbers them; every bit
above is 0. Every instruction is one 16-bit word (R90), so 16 bits are kept. -/
def tableWord (nbits w : Nat) : Word := BitVec.ofNat 16 (w % 2 ^ nbits)

/-- The instruction the decoder reads from the bytes of a table word, laid out in memory high byte first. -/
def decodeTableWord (nbits w : Nat) : Option Instr :=
  match decode (bytesOfWord (tableWord nbits w)) with
  | .ok (i, _) => some i
  | .error _ => none

/-! ## Every constructor's decoding, by a word written out from R97 and R91

Each word is written bit by bit from the spec's encoding: class, then `x`, then `y`, then the low nibble. -/

theorem decodes_cls : decodeWord 0b0000_0000_1110_0000 = .ok (.cls 0) := by decide
theorem decodes_ret : decodeWord 0b0000_1010_1110_1110 = .ok (.ret 0xA) := by decide
theorem decodes_jp : decodeWord 0b0001_0010_0011_0100 = .ok (.jp 0x234) := by decide
theorem decodes_call : decodeWord 0b0010_0011_0000_0000 = .ok (.call 0x300) := by decide
theorem decodes_seImm : decodeWord 0b0011_1010_0000_0111 = .ok (.seImm 0xA 0x07) := by decide
theorem decodes_sneImm : decodeWord 0b0100_1010_0000_0111 = .ok (.sneImm 0xA 0x07) := by decide
theorem decodes_seReg : decodeWord 0b0101_0001_0010_0111 = .ok (.seReg 1 2 7) := by decide
theorem decodes_ldImm : decodeWord 0b0110_1010_0010_1111 = .ok (.ldImm 0xA 0x2F) := by decide
theorem decodes_addImm : decodeWord 0b0111_0011_0000_0101 = .ok (.addImm 3 0x05) := by decide
theorem decodes_ldReg : decodeWord 0b1000_0001_0010_0000 = .ok (.ldReg 1 2) := by decide
theorem decodes_orReg : decodeWord 0b1000_0001_0010_0001 = .ok (.orReg 1 2) := by decide
theorem decodes_andReg : decodeWord 0b1000_0001_0010_0010 = .ok (.andReg 1 2) := by decide
theorem decodes_xorReg : decodeWord 0b1000_0001_0010_0011 = .ok (.xorReg 1 2) := by decide
theorem decodes_addReg : decodeWord 0b1000_0001_0010_0100 = .ok (.addReg 1 2) := by decide
theorem decodes_subReg : decodeWord 0b1000_0001_0010_0101 = .ok (.subReg 1 2) := by decide
theorem decodes_shr : decodeWord 0b1000_0001_0010_0110 = .ok (.shr 1 2) := by decide
theorem decodes_subn : decodeWord 0b1000_0001_0010_0111 = .ok (.subn 1 2) := by decide
theorem decodes_shl : decodeWord 0b1000_0001_0010_1110 = .ok (.shl 1 2) := by decide
theorem decodes_sneReg : decodeWord 0b1001_0001_0010_0000 = .ok (.sneReg 1 2 0) := by decide
theorem decodes_ldI : decodeWord 0b1010_0010_1111_0000 = .ok (.ldI 0x2F0) := by decide
theorem decodes_jpV0 : decodeWord 0b1011_0011_0000_0000 = .ok (.jpV0 0x300) := by decide
theorem decodes_rnd : decodeWord 0b1100_0011_0000_1111 = .ok (.rnd 3 0x0F) := by decide
theorem decodes_drw : decodeWord 0b1101_0000_0001_0101 = .ok (.drw 0 1 5) := by decide
theorem decodes_skp : decodeWord 0b1110_0101_1001_1110 = .ok (.skp 5) := by decide
theorem decodes_sknp : decodeWord 0b1110_0101_1010_0001 = .ok (.sknp 5) := by decide
theorem decodes_ldVxDt : decodeWord 0b1111_0011_0000_0111 = .ok (.ldVxDt 3) := by decide
theorem decodes_ldVxK : decodeWord 0b1111_0011_0000_1010 = .ok (.ldVxK 3) := by decide
theorem decodes_ldDtVx : decodeWord 0b1111_0011_0001_0101 = .ok (.ldDtVx 3) := by decide
theorem decodes_ldStVx : decodeWord 0b1111_0011_0001_1000 = .ok (.ldStVx 3) := by decide
theorem decodes_addI : decodeWord 0b1111_0010_0001_1110 = .ok (.addI 2) := by decide
theorem decodes_ldF : decodeWord 0b1111_0011_0010_1001 = .ok (.ldF 3) := by decide
theorem decodes_ldB : decodeWord 0b1111_0101_0011_0011 = .ok (.ldB 5) := by decide
theorem decodes_ldMemVx : decodeWord 0b1111_0010_0101_0101 = .ok (.ldMemVx 2) := by decide
theorem decodes_ldVxMem : decodeWord 0b1111_0001_0110_0101 = .ok (.ldVxMem 1) := by decide

end Sys2Proof
end

