-- ==== Sys2Proof/Config.lean ====
section
/-!
DEFINITION. What an implementation fixes: the named parameters of spec/00_scope.md R7 and the fixed sizes of R6, and
the two free values, the random byte (R10, R217) and the glyph address no rule states (R182).

The parameters stand in a record that State carries (log 5), so that a statement over all states holds for every
value of them. No instruction and no host command changes one (R36, R39).
-/

namespace Sys2Proof

/-- LOWMEM_WRITE_POLICY: what a store below 0x200 does (R7, R66). -/
inductive LowmemPolicy where
  /-- The store raises ReservedWrite. -/
  | fault
  /-- The store is performed. -/
  | allow
  deriving DecidableEq, Repr

/-- The named parameters of R7, apart from the random stream. -/
structure Config where
  /-- CLOCK_SPEED, the instruction steps in one TICK burst (R36); 0 is allowed. -/
  clockSpeed : Nat
  /-- FONT_TABLE, the 80 bytes RESET copies to 0x000..0x04F (R24). -/
  fontTable : Vector Byte 80
  /-- FONT_GLYPH_SCALE of Fx29 (R182). -/
  glyphScale : Nat
  /-- LOWMEM_WRITE_POLICY (R66). -/
  lowmemWrite : LowmemPolicy
  deriving DecidableEq, Repr

/-- Memory size in bytes: addresses 0x000..0xFFF (R6). -/
abbrev Config.memSize : Nat := 4096

/-- The first address a program may store to, and where a program is loaded (R6, R65). -/
abbrev Config.programOrigin : Nat := 0x200

/-- The largest program image LOAD accepts: 4096 − 0x200 bytes (R6, R272). -/
abbrev Config.maxProgram : Nat := 3584

/-- The conventional hexadecimal font, glyphs 0 to F, five bytes each: the default of FONT_TABLE (R24; PRESUMED, the
spec's own passage from general knowledge G3; log 5). -/
def Config.defaultFont : Vector Byte 80 :=
  #v[0xF0, 0x90, 0x90, 0x90, 0xF0,  0x20, 0x60, 0x20, 0x20, 0x70,
     0xF0, 0x10, 0xF0, 0x80, 0xF0,  0xF0, 0x10, 0xF0, 0x10, 0xF0,
     0x90, 0x90, 0xF0, 0x10, 0x10,  0xF0, 0x80, 0xF0, 0x10, 0xF0,
     0xF0, 0x80, 0xF0, 0x90, 0xF0,  0xF0, 0x10, 0x20, 0x40, 0x40,
     0xF0, 0x90, 0xF0, 0x90, 0xF0,  0xF0, 0x90, 0xF0, 0x10, 0xF0,
     0xF0, 0x90, 0xF0, 0x90, 0x90,  0xE0, 0x90, 0xE0, 0x90, 0xE0,
     0xF0, 0x80, 0x80, 0x80, 0xF0,  0xE0, 0x90, 0x90, 0x90, 0xE0,
     0xF0, 0x80, 0xF0, 0x80, 0xF0,  0xF0, 0x80, 0xF0, 0x80, 0x80]

/-- Every parameter at its default (R7). -/
def Config.default : Config where
  clockSpeed := 10
  fontTable := Config.defaultFont
  glyphScale := 1
  lowmemWrite := .fault

/-- The byte a memory cell holds after RESET: the font table at 0x000..0x04F, zero elsewhere (R30, R40, R271). This is
what an address that `State.mem` does not list reads as (log 10). -/
def Config.resetByte (c : Config) (a : Nat) : Byte :=
  if h : a < 80 then c.fontTable[a] else 0

/-- The random stream `rnd` (R7, R10, R217): byte number `k` is the one the `k`-th executed random instruction draws.
A FREE VALUE without a body: nothing can be proved of any byte of it (log 9). -/
opaque Config.rndByte : Nat → Byte

/-- What LD F, Vx puts in I when FONT_GLYPH_SCALE times Vx, the argument, passes 65535: R182 states no 16-bit value
there. A FREE VALUE without a body (log 22); with the scales the spec names, 1 and 5, it is never used. -/
opaque Config.wideGlyph : Nat → Word

end Sys2Proof
end

