-- ==== Sys2Proof/Machine/State.lean ====
section
/-!
DEFINITION. The state of the core: everything spec/10_state.md gives it, then the model's own four fields, and the
state after reset.

All of it is plain data. INVENTORY.md, '## State', names the rule and the reset value of every field.
-/

namespace Sys2Proof.Machine

/-- The causes of a fault (spec/60_exceptions.md R230). A cause stands in the FAULT latch of a NEXT state: taking a
fault is a step (R232; log 1), so no step of this machine ends in `Host.Outcome.fault`, and no path is cut short. -/
inductive Fault where
  /-- Code 1. Raised by fetch, DRW, LD B, LD [I] and LD Vx,[I] when an accessed address would exceed 4095. Safe: the
  reference program's behaviour is undefined there (R63, D5). -/
  | addressOutOfRange
  /-- Code 2. Raised by CALL with 16 entries in use. Safe: undefined in the reference program (R142, D4). -/
  | stackOverflow
  /-- Code 3. Raised by RET with no entry in use. Safe: undefined in the reference program (R140, D4). -/
  | stackUnderflow
  /-- Code 4. Raised by LD B and LD [I] storing below 0x200 when LOWMEM_WRITE_POLICY is fault. Safe (R66, D6). -/
  | reservedWrite
  /-- Code 5. Raised by SKP and SKNP when Vx > 15. Safe: the source is silent (R210, R211, D8). -/
  | keyOutOfRange
  deriving DecidableEq, Repr

/-- Why a step has no meaning. No arm of `exec` and no meaning of this model refuses. -/
inductive Refusal where
  /-- An instruction whose meaning is not written, by its mnemonic; raised by no arm of this model. Safe. -/
  | notModelled (mnemonic : String)
  deriving DecidableEq, Repr

/-- The FAULT latch `{cause, pc, op, addr}` (R37, R231). `cause = none` is the spec's code 0, no fault. -/
structure FaultLatch where
  cause : Option Fault
  pc : Word
  op : Word
  addr : BitVec 17
  deriving DecidableEq, Repr

/-- The latch with no fault: cause 0, other fields 0 (R37, R271). -/
def FaultLatch.clear : FaultLatch := ⟨none, 0, 0, 0⟩

/-- One diagnostics event (R125, R32). -/
inductive Event where
  /-- `UnknownOpcode(op, a)`: the word and the address it was fetched from (R125, D24). -/
  | unknownOpcode (op : Word) (addr : Word)
  deriving DecidableEq, Repr

/-- The four host commands (spec/00_scope.md R8). -/
inductive Command where
  /-- RESET (R271). -/
  | reset
  /-- LOAD(program), a finite byte sequence (R272). -/
  | load (program : List Byte)
  /-- TICK (R120). -/
  | tick
  /-- SET_KEY(id, pressed), `id` 4 bits (R240). -/
  | setKey (id : Nibble) (pressed : Bool)
  deriving DecidableEq, Repr

/-- The status LOAD returns (R9, R272). -/
inductive LoadStatus where
  | ok
  | loadOverflow
  deriving DecidableEq, Repr

/-- Memory: address and byte pairs in canonical form (`Memory.wf`), an address not listed reading as its byte after
RESET (log 10). -/
abbrev Memory := List Host.Cell

/-- The display buffer: 32 rows of 64 cells, `disp[r][c]` (R33). -/
abbrev Display := Vector (Vector Bool 64) 32

/-- All cells 0 (R200, R271). -/
def Display.blank : Display := Vector.replicate 32 (Vector.replicate 64 false)

/-- The state of the core. -/
structure State where
  /-- V[0]..V[15]; V[15] is also the flag register VF (R20, R21). -/
  v : Vector Byte 16
  /-- The index register I (R23). -/
  i : Word
  /-- The program counter PC (R22). -/
  pc : Word
  /-- The return-address stack STACK (R25). -/
  stack : Vector Word 16
  /-- SP, the number of stack entries in use, 0..16 (R26). -/
  sp : Fin 17
  /-- The delay timer DT (R27). -/
  dt : Byte
  /-- The sound timer ST (R28). -/
  st : Byte
  /-- The key latch KEY, true = pressed (R29). -/
  key : Vector Bool 16
  /-- MEM (R30). -/
  mem : Memory
  /-- DISP (R33). -/
  disp : Display
  /-- PAUSED (R34). -/
  paused : Bool
  /-- WAITING (R35). -/
  waiting : Bool
  /-- FAULT (R37). -/
  fault : FaultLatch
  /-- The diagnostics event log, oldest first (R32). -/
  events : List Event
  /-- The parameters, CLOCK_SPEED (R36) among them (R7; log 5). -/
  cfg : Config
  /-- The status the last LOAD returned: the LOAD status output of R9 (the model's own field; log 19). -/
  loadStatus : Option LoadStatus
  /-- The index of the next random byte of `Config.rndByte` (the model's own field; log 9). -/
  rndPos : Nat
  /-- Steps of the TICK in progress still to run, 0 between host commands (the model's own field; log 2). -/
  burst : Nat
  /-- Host commands not yet delivered, oldest first (the model's own field; log 3). -/
  inbox : List Command
  deriving DecidableEq, Repr

/-- The state right after RESET with every parameter at its default (R40, R271). The last four fields and the events
are the model's: no LOAD yet, the first random byte next, no TICK in progress, no command pending. -/
def State.reset : State where
  v := Vector.replicate 16 0
  i := 0
  pc := 0x0200
  stack := Vector.replicate 16 0
  sp := 0
  dt := 0
  st := 0
  key := Vector.replicate 16 false
  mem := []
  disp := Display.blank
  paused := false
  waiting := false
  fault := FaultLatch.clear
  events := []
  cfg := Config.default
  loadStatus := none
  rndPos := 0
  burst := 0
  inbox := []

end Sys2Proof.Machine
end

