-- ==== Sys2Proof/Machine/Memory.lean ====
section
/-!
DEFINITION. Memory as data: reading and writing one byte, runs of bytes, and the canonical form
(spec/20_memory.md R60 to R66).

Every operation takes `bg`, what an unlisted address reads as. These operations make no check; the checks of MemRead
and MemWrite are `readTrap` and `writeTrap` in Machine/Operands.lean, made for the whole range first (R63, R66, R232).
-/

namespace Sys2Proof.Machine

/-- The byte at address `a` (R13, R30). -/
def Memory.read (bg : Nat → Byte) : Memory → Nat → Byte
  | [], a => bg a
  | (k, b) :: rest, a => if k = a then b else Memory.read bg rest a

/-- Storing `b` at address `a`, in canonical form: in address order, and with no entry when `b` is what the address
reads as unlisted (R66). -/
def Memory.write (bg : Nat → Byte) : Memory → Nat → Byte → Memory
  | [], a, b => if b = bg a then [] else [(a, b)]
  | (k, c) :: rest, a, b =>
    if k < a then (k, c) :: Memory.write bg rest a b
    else if k = a then (if b = bg a then rest else (a, b) :: rest)
    else (if b = bg a then (k, c) :: rest else (a, b) :: (k, c) :: rest)

/-- Storing a run of bytes at ascending addresses from `base` (R60, R183, R184). -/
def Memory.writeRun (bg : Nat → Byte) (m : Memory) (base : Nat) : List Byte → Memory
  | [] => m
  | b :: bs => Memory.writeRun bg (Memory.write bg m base b) (base + 1) bs

/-- The `len` bytes at ascending addresses from `base` (R60, R185, R201). -/
def Memory.readRun (bg : Nat → Byte) (m : Memory) (base len : Nat) : List Byte :=
  (List.range len).map fun k => Memory.read bg m (base + k)

/-- The canonical form: addresses strictly rising and below 4096 (R65), no entry equal to what its address reads as
unlisted. -/
abbrev Memory.wf (bg : Nat → Byte) (m : Memory) : Prop :=
  m.Pairwise (fun p q => p.1 < q.1) ∧ ∀ c ∈ m, c.1 < Config.memSize ∧ c.2 ≠ bg c.1

end Sys2Proof.Machine
end

