-- ==== Sys2Proof/Machine/Ops.lean ====
section
/-!
DEFINITION. The named operations over State: registers, memory, stack, display, fault entry, the fetch and the
unrecognized opcode.

Instructions and commands change State through these only. `pc` in an instruction's state is the value after fetch,
the address of the FOLLOWING instruction (spec/00_scope.md R15).
-/

namespace Sys2Proof.Machine

/-! ## Registers (R20, R22, R23, R27, R28) -/

/-- V[x] (R12, R20). -/
def State.reg (s : State) (x : Nibble) : Byte := s.v[x.toNat]'x.isLt

/-- V[x] <- b (R12, R20): no register is hardwired. -/
def State.setReg (s : State) (x : Nibble) (b : Byte) : State :=
  { s with v := s.v.set x.toNat b x.isLt }

/-- All sixteen registers at once (R185, register load). -/
def State.setRegs (s : State) (regs : Vector Byte 16) : State := { s with v := regs }

/-- I <- w (R23). -/
def State.setI (s : State) (w : Word) : State := { s with i := w }

/-- PC <- w (R22). -/
def State.setPc (s : State) (w : Word) : State := { s with pc := w }

/-- DT <- b (R27). -/
def State.setDt (s : State) (b : Byte) : State := { s with dt := b }

/-- ST <- b (R28). -/
def State.setSt (s : State) (b : Byte) : State := { s with st := b }

/-- PC <- PC + 2, the increment of fetch and of a taken skip (R122, R123). -/
def State.advance (s : State) : State := s.setPc (s.pc + 2)

/-- A skip: PC <- PC + 2 when the condition holds, nothing otherwise (R144 to R147, R210, R211). -/
def State.skipIf (s : State) (cond : Bool) : State := if cond then s.advance else s

/-- The address the executing instruction was fetched from: `a = PC − 2` (R129). -/
def State.instrAddr (s : State) : Word := s.pc - 2

/-! ## Stack (R25, R26) -/

/-- STACK and SP written together. -/
def State.setStack (s : State) (entries : Vector Word 16) (sp : Fin 17) : State :=
  { s with stack := entries, sp := sp }

/-- STACK[SP] <- w; SP <- SP + 1, or nothing when all 16 entries are in use (R142). -/
def State.push (s : State) (w : Word) : Option State :=
  if h : s.sp.val < 16 then
    some (s.setStack (s.stack.set s.sp.val w h) ⟨s.sp.val + 1, Nat.succ_lt_succ h⟩)
  else none

/-- SP <- SP − 1 and the entry STACK[SP] then, which is not cleared; nothing when no entry is in use (R140). -/
def State.pop (s : State) : Option (Word × State) :=
  if h : 0 < s.sp.val then
    have hlt : s.sp.val - 1 < 16 := by have := s.sp.isLt; omega
    some (s.stack[s.sp.val - 1]'hlt, s.setStack s.stack ⟨s.sp.val - 1, Nat.lt_succ_of_lt hlt⟩)
  else none

/-! ## Memory (R13, R30) -/

/-- MEM[a] (R13). -/
def State.readByte (s : State) (a : Nat) : Byte := Memory.read s.cfg.resetByte s.mem a

/-- The `len` bytes from `base`, ascending (R60). -/
def State.readBytes (s : State) (base len : Nat) : List Byte := Memory.readRun s.cfg.resetByte s.mem base len

/-- MEM replaced (R271, R272). -/
def State.setMem (s : State) (m : Memory) : State := { s with mem := m }

/-- MEM[base + j] <- bytes[j], ascending (R60, R66). -/
def State.storeBytes (s : State) (base : Nat) (bytes : List Byte) : State :=
  s.setMem (Memory.writeRun s.cfg.resetByte s.mem base bytes)

/-! ## Keys, display, wait flags, outputs -/

/-- KEY[k] (R29). -/
def State.keyDown (s : State) (k : Nibble) : Bool := s.key[k.toNat]'k.isLt

/-- KEY[k] <- p (R29, R240). -/
def State.setKey (s : State) (k : Nibble) (p : Bool) : State := { s with key := s.key.set k.toNat p k.isLt }

/-- DISP replaced (R33). -/
def State.setDisp (s : State) (d : Display) : State := { s with disp := d }

/-- PAUSED and WAITING, set and cleared together (R35). -/
def State.setWait (s : State) (b : Bool) : State := { s with paused := b, waiting := b }

/-- FAULT <- latch (R231). -/
def State.setFault (s : State) (f : FaultLatch) : State := { s with fault := f }

/-- One event appended to the diagnostics log (R32, R125). -/
def State.emit (s : State) (e : Event) : State := { s with events := s.events ++ [e] }

/-- The status LOAD returned (R9, R272). -/
def State.setLoadStatus (s : State) (r : LoadStatus) : State := { s with loadStatus := some r }

/-- The random stream moved to the next byte (R10, R217). -/
def State.nextRnd (s : State) : State := { s with rndPos := s.rndPos + 1 }

/-- The steps the TICK in progress still has to run (R121). -/
def State.setBurst (s : State) (n : Nat) : State := { s with burst := n }

/-- The host commands not yet delivered (R8). -/
def State.setInbox (s : State) (cs : List Command) : State := { s with inbox := cs }

/-! ## Taking a fault (spec/60_exceptions.md R230 to R235) -/

/-- The code of R230. -/
def Fault.code : Fault → BitVec 3
  | .addressOutOfRange => 1
  | .stackOverflow => 2
  | .stackUnderflow => 3
  | .reservedWrite => 4
  | .keyOutOfRange => 5

/-- FAULT.cause as the host reads it: 0 when there is no fault (R230, R9). -/
def FaultLatch.code (f : FaultLatch) : BitVec 3 :=
  match f.cause with
  | none => 0
  | some c => c.code

/-- The core is faulted (R37): FAULT.cause ≠ 0. -/
def State.faulted (s : State) : Bool := s.fault.cause.isSome

/-- What an instruction raises: a cause and FAULT.addr (R14, R230). -/
structure Trap where
  cause : Fault
  addr : BitVec 17
  deriving DecidableEq, Repr

/-- FAULT ENTRY, the one shared operation (R231, R232): PC is the address `a` of the faulting instruction, the latch
records the cause, `a`, the word and the address; nothing else changes, and control goes nowhere. -/
def State.takeFault (s : State) (t : Trap) (a op : Word) : State :=
  (s.setPc a).setFault ⟨some t.cause, a, op, t.addr⟩

/-- A fault raised by the executing instruction, whose word is `op`: the fetch increment is undone (R232). -/
def State.raise (s : State) (t : Trap) (op : Word) : State := s.takeFault t s.instrAddr op

/-- A fault raised by fetch at PC: no word was read, so FAULT.op is 0; FAULT.addr is `max(PC, 4096)` (R123, R231). -/
def State.raiseFetch (s : State) : State :=
  s.takeFault ⟨.addressOutOfRange, BitVec.ofNat 17 (max s.pc.toNat Config.memSize)⟩ s.pc 0

/-- The way out of the faulted condition (R234): there is no return-from-fault instruction; RESET and LOAD clear the
latch. -/
def State.clearFault (s : State) : State := s.setFault FaultLatch.clear

/-! ## Fetch and the unrecognized opcode (spec/40_cycle.md R123, R125) -/

/-- The word at PC, big-endian; nothing when PC > 4094, so that PC or PC + 1 is no address. No alignment (R61, R123). -/
def State.fetch (s : State) : Option Word :=
  if s.pc.toNat ≤ 4094 then some (wordOfBytes (s.readByte s.pc.toNat) (s.readByte (s.pc.toNat + 1))) else none

/-- Executing an unrecognized opcode, after fetch: one event with the word and the address it was fetched from, and
no other effect (R125, R237). -/
def State.unrecognized (s : State) (op : Word) : State := s.emit (.unknownOpcode op s.instrAddr)

end Sys2Proof.Machine
end

