-- ==== Sys2Proof/Machine/Operands.lean ====
section
/-!
DEFINITION. Operand forms, address checks and data conversions (spec/20_memory.md R62 to R66, spec/30_encoding.md R93,
spec/43_index_memory.md R183, R186).
-/

namespace Sys2Proof.Machine

/-- `zext_16` of an address field (R11, R93). -/
def zextAddr (nnn : Addr) : Word := nnn.setWidth 16

/-- `zext_16` of a byte (R11, R143, R181). -/
def zextByte (b : Byte) : Word := b.setWidth 16

/-- `zext_8` of a key id (R241). -/
def zextNibble (k : Nibble) : Byte := k.setWidth 8

/-- `zext_17` of a byte, for FAULT.addr (R230). -/
def zextTrap (b : Byte) : BitVec 17 := b.setWidth 17

/-- The low nibble of a byte: `MEM[PC][3:0]` (R241), a key index of a register that holds at most 15 (R210). -/
def lowNibble (b : Byte) : Nibble := b.extractLsb' 0 4

/-- The base of every data access: I as an unbounded natural number, to which offsets are added without wrap (R64,
R186). -/
def State.base (s : State) : Nat := s.i.toNat

/-- The lowest address of an access from `base` that is no address: `max(base, 4096)` (R63, R230). -/
def firstBad (base : Nat) : BitVec 17 := BitVec.ofNat 17 (max base Config.memSize)

/-- The check of a data read of `len` bytes from `base`, for the whole range: an address above 4095 raises
AddressOutOfRange; no byte, no check (R63, R185, R201). -/
def readTrap (base len : Nat) : Option Trap :=
  if len = 0 ∨ base + len ≤ Config.memSize then none
  else some ⟨.addressOutOfRange, firstBad base⟩

/-- The check of a data store of `len` bytes from `base`, for the whole range: AddressOutOfRange is tested before
ReservedWrite, whose address is the base (R66, R183, R184, R233). -/
def writeTrap (c : Config) (base len : Nat) : Option Trap :=
  match readTrap base len with
  | some t => some t
  | none =>
    if base < Config.programOrigin ∧ c.lowmemWrite = .fault then some ⟨.reservedWrite, BitVec.ofNat 17 base⟩ else none

/-- The check of a key index (R210, R211): a value above 15 raises KeyOutOfRange with the value as FAULT.addr. -/
def keyTrap (b : Byte) : Option Trap :=
  if 15 < b.toNat then some ⟨.keyOutOfRange, zextTrap b⟩ else none

/-- An instruction of word `op` whose checks come before any effect: with a trap it faults and has no effect but the
FAULT latch, without one it has its effect (R14, R232). -/
def guarded (t : Option Trap) (op : Word) (s : State) (effect : State) : Host.Outcome State Fault Refusal :=
  match t with
  | some t => .next (s.raise t op)
  | none => .next effect

/-- The hundreds, tens and ones digits of a byte, each in a byte of its own (R183). -/
def bcdDigits (b : Byte) : List Byte :=
  [BitVec.ofNat 8 (b.toNat / 100), BitVec.ofNat 8 (b.toNat / 10 % 10), BitVec.ofNat 8 (b.toNat % 10)]

/-- V[0]..V[x], the bytes a register dump stores (R184). -/
def State.regRun (s : State) (x : Nibble) : List Byte := s.v.toList.take (x.toNat + 1)

/-- Registers `j`, `j + 1`, … loaded with `bytes` in order (R185). -/
def loadRun (regs : Vector Byte 16) (j : Nat) : List Byte → Vector Byte 16
  | [] => regs
  | b :: bs => loadRun (regs.setIfInBounds j b) (j + 1) bs

/-- The value LD F, Vx puts in I: FONT_GLYPH_SCALE times the whole 8-bit register (R182). Where the product passes 65535
(a scale above 257) the rule states no 16-bit value: a free value (log 22). -/
def glyphAddress (c : Config) (b : Byte) : Word :=
  if c.glyphScale * b.toNat < 65536 then BitVec.ofNat 16 (c.glyphScale * b.toNat)
  else Config.wideGlyph (c.glyphScale * b.toNat)

end Sys2Proof.Machine
end

