-- ==== Sys2Proof/Machine/Flags.lean ====
section
/-!
DEFINITION. The flag register's values and the order of the flag write and the result write (spec/10_state.md R21,
spec/42_alu.md R171, R172).

Every function takes LATCHED operand values (spec/00_scope.md R15, D2; log 8): a meaning reads its registers before it
writes one.
-/

namespace Sys2Proof.Machine

/-- The index of the flag register VF (R17, R21). -/
abbrev flagReg : Nibble := 0xF

/-- `(cond ? 1 : 0)` as a byte (R16). -/
def flagOf (cond : Bool) : Byte := if cond then 1 else 0

/-- Carry of an addition: 1 if the full sum is above 255 (R166, R171). -/
def carryFlag (a b : Byte) : Byte := flagOf (decide (255 < a.toNat + b.toNat))

/-- No borrow in `a − b`: 1 if a ≥ b, equality included (R167, R169, R171). -/
def noBorrowFlag (a b : Byte) : Byte := flagOf (decide (b.toNat ≤ a.toNat))

/-- The bit a right shift moves out: bit 0 (R168). -/
def lowBitFlag (a : Byte) : Byte := flagOf (a.getLsbD 0)

/-- The bit a left shift moves out: bit 7 (R170). -/
def highBitFlag (a : Byte) : Byte := flagOf (a.getLsbD 7)

/-- V[x] <- result, then V[0xF] <- flag: with x = 0xF the flag is what remains (R172: 8xy1 to 8xy4). -/
def State.resultThenFlag (s : State) (x : Nibble) (result flag : Byte) : State :=
  (s.setReg x result).setReg flagReg flag

/-- V[0xF] <- flag, then V[x] <- result: with x = 0xF the result is what remains (R172: 8xy5 to 8xyE). -/
def State.flagThenResult (s : State) (x : Nibble) (result flag : Byte) : State :=
  (s.setReg flagReg flag).setReg x result

end Sys2Proof.Machine
end

