-- ==== Sys2Proof/WellFormed.lean ====
section
/-!
DEFINITION. Well-formedness of what is given to the machine: instructions and program images.

The operand types of `Instr` hold every bound an encoding has (a register index is 4 bits, an immediate 8, an address
12: spec/30_encoding.md R91), so every instruction term encodes (R94: in each class every value of the operand bits is
valid). The checks here are those the types cannot make.
-/

namespace Sys2Proof

/-- The ignored bits are zero, as an assembler writes them: `00E0` is the canonical spelling (R95, R100). An
instruction that is not canonical still executes (R94, R95, D13). -/
def Instr.canonical : Instr → Bool
  | .cls ign | .ret ign => ign == 0
  | .seReg _ _ ign | .sneReg _ _ ign => ign == 0
  | .jp _ | .call _ | .seImm _ _ | .sneImm _ _ | .ldImm _ _ | .addImm _ _ | .ldReg _ _ | .orReg _ _ | .andReg _ _
  | .xorReg _ _ | .addReg _ _ | .subReg _ _ | .shr _ _ | .subn _ _ | .shl _ _ | .ldI _ | .jpV0 _ | .rnd _ _
  | .drw _ _ _ | .skp _ | .sknp _ | .ldVxDt _ | .ldVxK _ | .ldDtVx _ | .ldStVx _ | .addI _ | .ldF _ | .ldB _
  | .ldMemVx _ | .ldVxMem _ => true

/-- A program image fits the program area 0x200..0xFFF (R272: LOAD refuses a longer one). -/
def programFits (program : List Byte) : Bool :=
  decide (program.length ≤ Config.maxProgram)

end Sys2Proof
end

