-- ==== Sys2Proof/Machine/Commands.lean ====
section
/-!
DEFINITION. The host's side: power-on, RESET, LOAD, SET_KEY, the timer step and the read ports
(spec/70_reset_and_hazards.md R270 to R272, spec/60_exceptions.md R240, R241, spec/40_cycle.md R126,
spec/00_scope.md R9). TICK is in Machine/Cycle.lean.
-/

namespace Sys2Proof.Machine

/-! ## Power-on, RESET, LOAD -/

/-- The state at construction: everything 0, memory without a font, PC = 0, CLOCK_SPEED 10 (R270, R40, D19). -/
def State.powerOn : State :=
  { State.reset with
    pc := 0
    mem := Memory.writeRun Config.default.resetByte [] 0 (List.replicate 80 0) }

/-- RESET (R271): every element of the state to its reset value, in every condition. The parameters (R36, C2), the
diagnostics log (R40) and what lies outside the core, the random stream (R217) and the host's pending commands and
last LOAD status, are unchanged. -/
def cmdReset (s : State) : State :=
  { State.reset with
    events := s.events
    cfg := s.cfg
    loadStatus := s.loadStatus
    rndPos := s.rndPos
    inbox := s.inbox }

/-- LOAD(program) (R272): RESET first, always; a program longer than 3584 bytes is then rejected with nothing copied;
otherwise byte `j` goes to 0x200 + j, past the write checks (R66, D29). -/
def cmdLoad (program : List Byte) (s : State) : State :=
  if programFits program then
    ((cmdReset s).storeBytes Config.programOrigin program).setLoadStatus .ok
  else (cmdReset s).setLoadStatus .loadOverflow

/-! ## SET_KEY -/

/-- Completing a key wait (R241): the key id goes to the register named by the low nibble of MEM[PC], PAUSED and
WAITING are cleared, and PC moves past the wait instruction (D9; log 14). -/
def completeWait (id : Nibble) (s : State) : State :=
  ((s.setReg (lowNibble (s.readByte s.pc.toNat)) (zextNibble id)).setWait false).advance

/-- SET_KEY(id, pressed) (R240): nothing while faulted (R235); otherwise the latch, and a press while WAITING
completes the wait. The previous value of the latch is not looked at (D25). -/
def cmdSetKey (id : Nibble) (pressed : Bool) (s : State) : State :=
  if s.faulted then s
  else if s.waiting && pressed then completeWait id (s.setKey id pressed)
  else s.setKey id pressed

/-! ## The timer step -/

/-- A timer's value one count later; 0 stays 0 (R126). -/
def countDown (b : Byte) : Byte := if b = 0 then 0 else b - 1

/-- TIMER_STEP (R126). -/
def timerStep (s : State) : State := (s.setDt (countDown s.dt)).setSt (countDown s.st)

/-! ## Read ports (R9) -/

/-- `sound_on` = (ST ≠ 0 ? 1 : 0) (R9, R28). -/
def State.soundOn (s : State) : Bool := s.st != 0

/-- The display read port: 2048 bytes 0x00 or 0x01, row-major, cell (r, c) at element 64 r + c (R9, R33, D16). -/
def State.displayPort (s : State) : List Byte := s.disp.toList.flatMap fun row => row.toList.map flagOf

/-- The fault status port: cause code, pc, op, addr (R9, R231). -/
def State.faultPort (s : State) : BitVec 3 × Word × Word × BitVec 17 :=
  (s.fault.code, s.fault.pc, s.fault.op, s.fault.addr)

end Sys2Proof.Machine
end

