-- ==== Sys2Proof/Machine/Alu.lean ====
section
/-!
DEFINITION. Register loads and 8-bit arithmetic and logic (spec/42_alu.md R160 to R172).

Operands are latched: every register is read from `s`, before a write (R15, D2). Results are modulo 256 (R171).
-/

namespace Sys2Proof.Machine

/-- LD Vx, kk `6xkk` (R160). -/
def execLdImm (x : Nibble) (kk : Byte) (s : State) : Host.Outcome State Fault Refusal :=
  .next (s.setReg x kk)

/-- ADD Vx, kk `7xkk` (R161): no flag. -/
def execAddImm (x : Nibble) (kk : Byte) (s : State) : Host.Outcome State Fault Refusal :=
  .next (s.setReg x (s.reg x + kk))

/-- LD Vx, Vy `8xy0` (R162): no flag. -/
def execLdReg (x y : Nibble) (s : State) : Host.Outcome State Fault Refusal :=
  .next (s.setReg x (s.reg y))

/-- OR Vx, Vy `8xy1` (R163): VF = 0, after Vx. -/
def execOrReg (x y : Nibble) (s : State) : Host.Outcome State Fault Refusal :=
  .next (s.resultThenFlag x (s.reg x ||| s.reg y) 0)

/-- AND Vx, Vy `8xy2` (R164): VF = 0, after Vx. -/
def execAndReg (x y : Nibble) (s : State) : Host.Outcome State Fault Refusal :=
  .next (s.resultThenFlag x (s.reg x &&& s.reg y) 0)

/-- XOR Vx, Vy `8xy3` (R165): VF = 0, after Vx. -/
def execXorReg (x y : Nibble) (s : State) : Host.Outcome State Fault Refusal :=
  .next (s.resultThenFlag x (s.reg x ^^^ s.reg y) 0)

/-- ADD Vx, Vy `8xy4` (R166): VF = carry, after Vx. -/
def execAddReg (x y : Nibble) (s : State) : Host.Outcome State Fault Refusal :=
  .next (s.resultThenFlag x (s.reg x + s.reg y) (carryFlag (s.reg x) (s.reg y)))

/-- SUB Vx, Vy `8xy5` (R167): VF = no borrow of Vx − Vy, before Vx. -/
def execSubReg (x y : Nibble) (s : State) : Host.Outcome State Fault Refusal :=
  .next (s.flagThenResult x (s.reg x - s.reg y) (noBorrowFlag (s.reg x) (s.reg y)))

/-- SHR Vx, Vy `8xy6` (R168): Vx := Vy >> 1; VF = bit 0 of Vy, before Vx. -/
def execShr (x y : Nibble) (s : State) : Host.Outcome State Fault Refusal :=
  .next (s.flagThenResult x (s.reg y >>> 1) (lowBitFlag (s.reg y)))

/-- SUBN Vx, Vy `8xy7` (R169): VF = no borrow of Vy − Vx, before Vx. -/
def execSubn (x y : Nibble) (s : State) : Host.Outcome State Fault Refusal :=
  .next (s.flagThenResult x (s.reg y - s.reg x) (noBorrowFlag (s.reg y) (s.reg x)))

/-- SHL Vx, Vy `8xyE` (R170): Vx := Vy << 1 (low byte); VF = bit 7 of Vy, before Vx. -/
def execShl (x y : Nibble) (s : State) : Host.Outcome State Fault Refusal :=
  .next (s.flagThenResult x (s.reg y <<< 1) (highBitFlag (s.reg y)))

end Sys2Proof.Machine
end

