-- ==== Sys2Proof/Machine/DisplayUnit.lean ====
section
/-!
DEFINITION. The display instructions and the collision detector (spec/44_display.md R200 to R202).
-/

namespace Sys2Proof.Machine

/-- DISP[r][c] (R12, R33). -/
def Display.cell (d : Display) (r : Fin 32) (c : Fin 64) : Bool := (d[r.val]'r.isLt)[c.val]'c.isLt

/-- DISP[r][c] <- DISP[r][c] XOR 1 (R201). -/
def Display.toggle (d : Display) (r : Fin 32) (c : Fin 64) : Display :=
  d.set r.val ((d[r.val]'r.isLt).set c.val (!d.cell r c) c.isLt) r.isLt

/-- The row of pixel row `row` of a sprite at vertical coordinate `vy`: modulo 32 for every pixel (R201, D15). -/
def pixelRow (vy : Byte) (row : Nat) : Fin 32 := ⟨(vy.toNat + row) % 32, Nat.mod_lt _ (by decide)⟩

/-- The column of pixel column `col` of a sprite at horizontal coordinate `vx`: modulo 64 (R201, D15). -/
def pixelCol (vx : Byte) (col : Nat) : Fin 64 := ⟨(vx.toNat + col) % 64, Nat.mod_lt _ (by decide)⟩

/-- A display being drawn on, and whether a pixel went from 1 to 0 so far. -/
abbrev Canvas := Display × Bool

/-- One set sprite bit: a set pixel is a collision, and the pixel is toggled (R201, R202 (c)). -/
def drawPixel (r : Fin 32) (c : Fin 64) (acc : Canvas) : Canvas :=
  (acc.1.toggle r c, acc.2 || acc.1.cell r c)

/-- One sprite row, column 0 to 7: bit 7 of the byte is the leftmost pixel (R201, D14; log 17). -/
def drawRow (vx : Byte) (r : Fin 32) (b : Byte) (acc : Canvas) : Canvas :=
  (List.range 8).foldl (fun acc col => if b.getLsbD (7 - col) then drawPixel r (pixelCol vx col) acc else acc) acc

/-- The sprite rows from row number `row` on, top to bottom (R201). -/
def drawRows (vx vy : Byte) (row : Nat) : List Byte → Canvas → Canvas
  | [], acc => acc
  | b :: bs, acc => drawRows vx vy (row + 1) bs (drawRow vx (pixelRow vy row) b acc)

/-- Drawing a sprite on a display: no collision before the first pixel (R201). -/
def drawSprite (vx vy : Byte) (rows : List Byte) (d : Display) : Canvas := drawRows vx vy 0 rows (d, false)

/-- CLS `00E0`, `op[11:8]` ignored (R200): VF is not written. -/
def execCls (_ign : Nibble) (s : State) : Host.Outcome State Fault Refusal :=
  .next (s.setDisp Display.blank)

/-- DRW Vx, Vy, n `Dxyn` (R201): the range I..I + n − 1 is checked first (n = 0 makes no access); coordinates are
latched before VF is cleared; VF = 1 on a collision, else 0. -/
def execDrw (x y n : Nibble) (s : State) : Host.Outcome State Fault Refusal :=
  guarded (readTrap s.base n.toNat) (encode (.drw x y n)) s
    (let drawn := drawSprite (s.reg x) (s.reg y) (s.readBytes s.base n.toNat) s.disp
     (s.setDisp drawn.1).setReg flagReg (flagOf drawn.2))

end Sys2Proof.Machine
end

