-- ==== Sys2Proof/Machine/Environment.lean ====
section
/-!
DEFINITION. Key, timer and random instructions (spec/45_keys_timers_random.md R210 to R218).
-/

namespace Sys2Proof.Machine

/-- SKP Vx `Ex9E` (R210): KeyOutOfRange when Vx > 15. -/
def execSkp (x : Nibble) (s : State) : Host.Outcome State Fault Refusal :=
  guarded (keyTrap (s.reg x)) (encode (.skp x)) s (s.skipIf (s.keyDown (lowNibble (s.reg x))))

/-- SKNP Vx `ExA1` (R211): KeyOutOfRange when Vx > 15. -/
def execSknp (x : Nibble) (s : State) : Host.Outcome State Fault Refusal :=
  guarded (keyTrap (s.reg x)) (encode (.sknp x)) s (s.skipIf (!s.keyDown (lowNibble (s.reg x))))

/-- LD Vx, DT `Fx07` (R212). -/
def execLdVxDt (x : Nibble) (s : State) : Host.Outcome State Fault Refusal :=
  .next (s.setReg x s.dt)

/-- LD DT, Vx `Fx15` (R213). -/
def execLdDtVx (x : Nibble) (s : State) : Host.Outcome State Fault Refusal :=
  .next (s.setDt (s.reg x))

/-- LD ST, Vx `Fx18` (R214). -/
def execLdStVx (x : Nibble) (s : State) : Host.Outcome State Fault Refusal :=
  .next (s.setSt (s.reg x))

/-- LD Vx, K `Fx0A` (R215): PAUSED and WAITING set, PC back to this instruction's own address. Vx, the destination, is
written by the completing SET_KEY (R241), and KEY is not read. -/
def execLdVxK (_x : Nibble) (s : State) : Host.Outcome State Fault Refusal :=
  .next ((s.setWait true).setPc s.instrAddr)

/-- RND Vx, kk `Cxkk` when the byte drawn is `r` (R217). -/
def rndWith (r : Byte) (x : Nibble) (kk : Byte) (s : State) : State := s.nextRnd.setReg x (r &&& kk)

/-- RND Vx, kk `Cxkk` (R217): the next byte of the free stream, ANDed with kk (log 9). -/
def execRnd (x : Nibble) (kk : Byte) (s : State) : Host.Outcome State Fault Refusal :=
  .next (rndWith (Config.rndByte s.rndPos) x kk s)

end Sys2Proof.Machine
end

