-- ==== Sys2Proof/Machine/Flow.lean ====
section
/-!
DEFINITION. Control transfer (spec/41_flow.md R140 to R148): return, jump, call, jump with offset, register skips.

`s.pc` is the value after fetch, `a + 2` (R15). No target is checked here and none is aligned (R148).
-/

namespace Sys2Proof.Machine

/-- RET `00EE` (R140): StackUnderflow with no entry in use; the popped entry is not cleared. -/
def execRet (ign : Nibble) (s : State) : Host.Outcome State Fault Refusal :=
  match s.pop with
  | some (w, t) => .next (t.setPc w)
  | none => .next (s.raise ⟨.stackUnderflow, 0⟩ (encode (.ret ign)))

/-- JP `1nnn` (R141). -/
def execJp (nnn : Addr) (s : State) : Host.Outcome State Fault Refusal :=
  .next (s.setPc (zextAddr nnn))

/-- CALL `2nnn` (R142): pushes the address of the following instruction; StackOverflow with 16 entries in use. -/
def execCall (nnn : Addr) (s : State) : Host.Outcome State Fault Refusal :=
  match s.push s.pc with
  | some t => .next (t.setPc (zextAddr nnn))
  | none => .next (s.raise ⟨.stackOverflow, 0⟩ (encode (.call nnn)))

/-- JP V0 `Bnnn` (R143): the sum is not reduced modulo 4096. -/
def execJpV0 (nnn : Addr) (s : State) : Host.Outcome State Fault Refusal :=
  .next (s.setPc (zextAddr nnn + zextByte (s.reg 0)))

/-- SE Vx, kk `3xkk` (R144). -/
def execSeImm (x : Nibble) (kk : Byte) (s : State) : Host.Outcome State Fault Refusal :=
  .next (s.skipIf (s.reg x == kk))

/-- SNE Vx, kk `4xkk` (R145). -/
def execSneImm (x : Nibble) (kk : Byte) (s : State) : Host.Outcome State Fault Refusal :=
  .next (s.skipIf (s.reg x != kk))

/-- SE Vx, Vy `5xy0`, the low nibble ignored (R146). -/
def execSeReg (x y _ign : Nibble) (s : State) : Host.Outcome State Fault Refusal :=
  .next (s.skipIf (s.reg x == s.reg y))

/-- SNE Vx, Vy `9xy0`, the low nibble ignored (R147). -/
def execSneReg (x y _ign : Nibble) (s : State) : Host.Outcome State Fault Refusal :=
  .next (s.skipIf (s.reg x != s.reg y))

end Sys2Proof.Machine
end

