-- ==== Sys2Proof/Machine/IndexMemory.lean ====
section
/-!
DEFINITION. The index register and memory instructions (spec/43_index_memory.md R180 to R186).

No instruction changes I as a side effect of an access (R186). Checks come before any effect (R66, R232).
-/

namespace Sys2Proof.Machine

/-- LD I, nnn `Annn` (R180). -/
def execLdI (nnn : Addr) (s : State) : Host.Outcome State Fault Refusal :=
  .next (s.setI (zextAddr nnn))

/-- ADD I, Vx `Fx1E` (R181): modulo 65536, no 12-bit mask, no flag. -/
def execAddI (x : Nibble) (s : State) : Host.Outcome State Fault Refusal :=
  .next (s.setI (s.i + zextByte (s.reg x)))

/-- LD F, Vx `Fx29` (R182): FONT_GLYPH_SCALE times the whole 8-bit register. -/
def execLdF (x : Nibble) (s : State) : Host.Outcome State Fault Refusal :=
  .next (s.setI (glyphAddress s.cfg (s.reg x)))

/-- LD B, Vx `Fx33` (R183): hundreds, tens, ones at I, I + 1, I + 2. -/
def execLdB (x : Nibble) (s : State) : Host.Outcome State Fault Refusal :=
  guarded (writeTrap s.cfg s.base 3) (encode (.ldB x)) s (s.storeBytes s.base (bcdDigits (s.reg x)))

/-- LD [I], Vx `Fx55` (R184): V0..Vx at I, I + 1, …; I unchanged. -/
def execLdMemVx (x : Nibble) (s : State) : Host.Outcome State Fault Refusal :=
  guarded (writeTrap s.cfg s.base (x.toNat + 1)) (encode (.ldMemVx x)) s (s.storeBytes s.base (s.regRun x))

/-- LD Vx, [I] `Fx65` (R185): V0..Vx from I, I + 1, …; I unchanged. -/
def execLdVxMem (x : Nibble) (s : State) : Host.Outcome State Fault Refusal :=
  guarded (readTrap s.base (x.toNat + 1)) (encode (.ldVxMem x)) s
    (s.setRegs (loadRun s.v 0 (s.readBytes s.base (x.toNat + 1))))

end Sys2Proof.Machine
end

