-- ==== Sys2Proof/Machine/Cycle.lean ====
section
/-!
DEFINITION. STEP, TICK, and how the machine interleaves the core's steps with the host's commands
(spec/40_cycle.md R120 to R128, spec/00_scope.md R8).

`tick` and `command` are the spec's atomic commands. `cycle` is one step of the machine: it runs a TICK one
instruction at a time, so that each instruction is a step (R122), and delivers host commands only between TICKs (R8,
R76). That a TICK run by `cycle` reaches what `tick` reaches is a statement.
-/

namespace Sys2Proof.Machine

/-- What a step answers. -/
abbrev Result := Host.Outcome State Fault Refusal

/-- STEP (R122): fetch, PC + 2, execute; a fetch fault leaves only the latch (R123), an unrecognized opcode is an event
(R125). -/
def instrStep (s : State) : Result :=
  match s.fetch with
  | none => .next s.raiseFetch
  | some op =>
    match decodeWord op with
    | .ok i => exec i s.advance
    | .error _ => .next (s.advance.unrecognized op)

/-! ## TICK as the spec writes it -/

/-- The burst of `n` steps and the timer step after it; a fault ends the TICK at once, without the timer step (R120,
R121, R232). PAUSED is not looked at inside the burst (R121). -/
def runBurst : Nat → State → Result
  | 0, s => .next (timerStep s)
  | n + 1, s =>
    match instrStep s with
    | .next t => if t.faulted then .next t else runBurst n t
    | .fault r => .fault r
    | .refused r => .refused r

/-- The source's other policy: a burst that stops at the first step that sets PAUSED (R127); not used by the
machine. -/
def runBurstEarly : Nat → State → Result
  | 0, s => .next (timerStep s)
  | n + 1, s =>
    match instrStep s with
    | .next t =>
      if t.faulted then .next t else if t.paused then .next (timerStep t) else runBurstEarly n t
    | .fault r => .fault r
    | .refused r => .refused r

/-- TICK (R120): nothing while faulted or paused; otherwise CLOCK_SPEED steps and the timer step. -/
def tick (s : State) : Result :=
  if s.faulted || s.paused then .next s else runBurst s.cfg.clockSpeed s

/-- A host command as the atomic transition it is (R8). -/
def command (c : Command) (s : State) : Result :=
  match c with
  | .reset => .next (cmdReset s)
  | .load program => .next (cmdLoad program s)
  | .tick => tick s
  | .setKey id pressed => .next (cmdSetKey id pressed s)

/-! ## The machine's step -/

/-- After one step of a burst with `left` steps to run, this one included: a fault ends the TICK (R232), the last step
is followed by the timer step (R126), any other leaves the rest of the burst to run (R121). -/
def endOfStep (left : Nat) (t : State) : State :=
  if t.faulted then t.setBurst 0
  else if left ≤ 1 then (timerStep t).setBurst 0
  else t.setBurst (left - 1)

/-- One STEP inside a TICK with `left` steps to run. -/
def burstStep (left : Nat) (s : State) : Result :=
  match instrStep s with
  | .next t => .next (endOfStep left t)
  | .fault r => .fault r
  | .refused r => .refused r

/-- A TICK's first step: the test of FAULT and PAUSED is made here, once (R120). With CLOCK_SPEED = 0 the TICK is the
timer step alone (R36). -/
def beginTick (s : State) : Result :=
  if s.faulted || s.paused then .next s
  else if s.cfg.clockSpeed = 0 then .next (timerStep s)
  else burstStep s.cfg.clockSpeed s

/-- The first, or only, step of a host command. -/
def deliver (c : Command) (s : State) : Result :=
  match c with
  | .reset => .next (cmdReset s)
  | .load program => .next (cmdLoad program s)
  | .tick => beginTick s
  | .setKey id pressed => .next (cmdSetKey id pressed s)

/-- A TICK is in progress. -/
def State.inTick (s : State) : Bool := s.burst != 0 && !s.faulted

/-- One step of the machine: the TICK in progress goes on, or else the oldest pending host command begins; with none
pending the host issues a TICK (log 3). -/
def cycle (s : State) : Result :=
  if s.inTick then burstStep s.burst s
  else
    match s.inbox with
    | c :: cs => deliver c (s.setInbox cs)
    | [] => beginTick s

/-- The next step fetches an instruction: a TICK is in progress, or one begins and is neither refused by FAULT or PAUSED
nor empty. -/
def State.aboutToFetch (s : State) : Bool :=
  s.inTick || (s.inbox.isEmpty && !s.faulted && !s.paused && s.cfg.clockSpeed != 0)

/-- `s` made to fetch at its next step: as it is when it will; otherwise with the latch clear and a TICK in progress. -/
def State.readyToFetch (s : State) : State :=
  if s.aboutToFetch then s else (s.clearFault).setBurst (max 1 s.burst)

/-- `s` with a PC that can be fetched from: PC as it is up to 4094, the program origin otherwise. -/
def State.atFetchablePc (s : State) : State :=
  if s.pc.toNat ≤ 4094 then s else s.setPc 0x200

/-- `op` stored at PC, high byte first, for the next step to fetch and run. -/
def State.placeWord (s : State) (op : Word) : State :=
  let t := s.readyToFetch.atFetchablePc
  t.storeBytes t.pc.toNat (bytesOfWord op)

end Sys2Proof.Machine
end

