-- ==== Sys2Proof/Machine/Step.lean ====
section
/-!
DEFINITION. The step of the machine and the host's way to place an instruction. Both only call Machine/Cycle.lean.
-/

namespace Sys2Proof.Machine

/-- One step: one STEP of the TICK in progress (spec/40_cycle.md R122), or one host command (spec/00_scope.md R8). -/
def step (s : State) : Host.Outcome State Fault Refusal := cycle s

/-- `s` with the instruction of a table word stored where the next step fetches, and made to fetch it: at PC, high byte
first (R60). From `State.reset` only memory changes (log 4). -/
def State.withFetchWord (s : State) (nbits w : Nat) : State := s.placeWord (tableWord nbits w)

end Sys2Proof.Machine
end

