-- ==== Sys2Proof/Assembly.lean ====
section
/-!
DEFINITION. The textual form of an instruction and the assembler of spec/30_encoding.md R100 and R101 (notation of the
spec's own, its decision D27; log 29). Nothing in the machine uses this file.
-/

namespace Sys2Proof

/-! ## The text of an instruction (R97's mnemonic column, R100) -/

/-- One hex digit. -/
def digitText (d : Nibble) : String :=
  ["0", "1", "2", "3", "4", "5", "6", "7", "8", "9", "A", "B", "C", "D", "E", "F"].getD d.toNat "0"

/-- `Vx` (R100). -/
def regText (x : Nibble) : String := "V" ++ digitText x

/-- A byte as a hex literal (R100). -/
def byteText (kk : Byte) : String := "0x" ++ digitText (kk.extractLsb' 4 4) ++ digitText (kk.extractLsb' 0 4)

/-- An address as a hex literal (R100). -/
def addrText (nnn : Addr) : String :=
  "0x" ++ digitText (nnn.extractLsb' 8 4) ++ digitText (nnn.extractLsb' 4 4) ++ digitText (nnn.extractLsb' 0 4)

/-- Two registers as operands. -/
def regsText (x y : Nibble) : String := regText x ++ ", " ++ regText y

/-- A register and a byte as operands. -/
def regByteText (x : Nibble) (kk : Byte) : String := regText x ++ ", " ++ byteText kk

/-- The line of an instruction; the ignored bits are not written (R95: the canonical spelling). -/
def Instr.text : Instr → String
  | .cls _ => "CLS"
  | .ret _ => "RET"
  | .jp nnn => "JP " ++ addrText nnn
  | .call nnn => "CALL " ++ addrText nnn
  | .seImm x kk => "SE " ++ regByteText x kk
  | .sneImm x kk => "SNE " ++ regByteText x kk
  | .seReg x y _ => "SE " ++ regsText x y
  | .ldImm x kk => "LD " ++ regByteText x kk
  | .addImm x kk => "ADD " ++ regByteText x kk
  | .ldReg x y => "LD " ++ regsText x y
  | .orReg x y => "OR " ++ regsText x y
  | .andReg x y => "AND " ++ regsText x y
  | .xorReg x y => "XOR " ++ regsText x y
  | .addReg x y => "ADD " ++ regsText x y
  | .subReg x y => "SUB " ++ regsText x y
  | .shr x y => "SHR " ++ regsText x y
  | .subn x y => "SUBN " ++ regsText x y
  | .shl x y => "SHL " ++ regsText x y
  | .sneReg x y _ => "SNE " ++ regsText x y
  | .ldI nnn => "LD I, " ++ addrText nnn
  | .jpV0 nnn => "JP V0, " ++ addrText nnn
  | .rnd x kk => "RND " ++ regByteText x kk
  | .drw x y n => "DRW " ++ regsText x y ++ ", 0x" ++ digitText n
  | .skp x => "SKP " ++ regText x
  | .sknp x => "SKNP " ++ regText x
  | .ldVxDt x => "LD " ++ regText x ++ ", DT"
  | .ldVxK x => "LD " ++ regText x ++ ", K"
  | .ldDtVx x => "LD DT, " ++ regText x
  | .ldStVx x => "LD ST, " ++ regText x
  | .addI x => "ADD I, " ++ regText x
  | .ldF x => "LD F, " ++ regText x
  | .ldB x => "LD B, " ++ regText x
  | .ldMemVx x => "LD [I], " ++ regText x
  | .ldVxMem x => "LD " ++ regText x ++ ", [I]"

/-! ## Programs with labels -/

/-- The four instructions whose operand may be a label. -/
inductive LabelForm where
  | jp
  | call
  | jpV0
  | ldI
  deriving DecidableEq, Repr

/-- The instruction of a form and an address. -/
def LabelForm.instr : LabelForm → Addr → Instr
  | .jp, a => .jp a
  | .call, a => .call a
  | .jpV0, a => .jpV0 a
  | .ldI, a => .ldI a

/-- One line of a program (R100); there are no pseudo-instructions (R101). -/
inductive AsmLine where
  /-- An instruction with literal operands. -/
  | instr (i : Instr)
  /-- An instruction whose address operand is a label: `JP`, `CALL`, `JP V0,` or `LD I,`. -/
  | toLabel (form : LabelForm) (name : String)
  /-- `name:`, the address of the next emitted byte. -/
  | label (name : String)
  /-- `DB b0, b1, …`, literal bytes. -/
  | bytes (bs : List Byte)
  deriving DecidableEq, Repr

/-- The bytes a line emits (R100). -/
def AsmLine.size : AsmLine → Nat
  | .instr _ => 2
  | .toLabel _ _ => 2
  | .label _ => 0
  | .bytes bs => bs.length

/-- The address of a label in lines whose first byte is at `addr`. -/
def labelAddress (name : String) : Nat → List AsmLine → Option Nat
  | _, [] => none
  | addr, .label n :: rest => if n = name then some addr else labelAddress name addr rest
  | addr, l :: rest => labelAddress name (addr + l.size) rest

/-- The bytes of one line of `program`; none when a label has no address of 12 bits. -/
def AsmLine.emit (program : List AsmLine) : AsmLine → Option (List Byte)
  | .instr i => some (encodeBytes i)
  | .toLabel form name =>
    match labelAddress name 0x200 program with
    | some a => if a < 4096 then some (encodeBytes (form.instr (BitVec.ofNat 12 a))) else none
    | none => none
  | .label _ => some []
  | .bytes bs => some bs

/-- The image of a program, its first byte for address 0x200, each instruction high byte first (R100). -/
def assemble (program : List AsmLine) : Option (List Byte) :=
  (program.mapM (AsmLine.emit program)).map List.flatten

end Sys2Proof
end

