-- ==== Sys2Proof/Safety.lean ====
section
/-!
DEFINITION. What a sound state and a safe run are, in the terms the statements use.
-/

namespace Sys2Proof.Machine

/-- The canonical form of memory in a state (log 10). -/
def State.memCanonical (s : State) : Prop := Memory.wf s.cfg.resetByte s.mem

/-- PAUSED = WAITING (R35), and while WAITING the word at PC is a wait-for-key instruction (R38, R215). -/
def State.waitSound (s : State) : Prop :=
  s.paused = s.waiting ∧ (s.waiting = true → ∃ x, s.fetch = some (encode (.ldVxK x)))

/-- The FAULT latch: all zero without a fault (R37), FAULT.pc = PC with one, and then no TICK in progress (R232). -/
def State.faultSound (s : State) : Prop :=
  (s.fault.cause = none → s.fault = FaultLatch.clear) ∧
  (s.faulted = true → s.fault.pc = s.pc ∧ s.burst = 0)

/-- The bounds of R22: PC is at most 0x10FE, and every stack entry, pushed by a call, at most 4096. -/
def State.pcBounded (s : State) : Prop :=
  s.pc.toNat ≤ 0x10FE ∧ ∀ k : Fin 16, s.stack[k].toNat ≤ 4096

/-- A TICK in progress has at most CLOCK_SPEED steps to run (R121). -/
def State.burstBounded (s : State) : Prop := s.burst ≤ s.cfg.clockSpeed

/-- The invariant of the core. -/
structure State.Inv (s : State) : Prop where
  mem : s.memCanonical
  wait : s.waitSound
  fault : s.faultSound
  pc : s.pcBounded
  burst : s.burstBounded

/-- The source's memory invariant: below 0x200 memory holds what RESET put there (R65, R66). -/
def State.lowMemoryIntact (s : State) : Prop :=
  ∀ a, a < Config.programOrigin → s.readByte a = s.cfg.resetByte a

/-- A safe state: sound and not faulted; a faulted state is never final and satisfies no postcondition (R234). -/
def State.safe (s : State) : Prop := s.Inv ∧ s.faulted = false

/-- The launch premise of R274: LOAD of a program has returned ok, and SET_KEY commands may have followed. -/
def State.launched (program : List Byte) (s : State) : Prop :=
  programFits program = true ∧
  ∃ (before : State) (keys : List (Nibble × Bool)),
    s = keys.foldl (fun t k => cmdSetKey k.1 k.2 t) (cmdLoad program before)

/-- A run of `k` machine steps from `s` ends in `t`. -/
def RunsTo (k : Nat) (s t : State) : Prop :=
  match k with
  | 0 => s = t
  | k + 1 => ∃ m, step s = .next m ∧ RunsTo k m t

/-! ## Frames: what an instruction leaves alone -/

/-- Every byte of memory reads as before. -/
def SameMemory (s t : State) : Prop := ∀ a, t.readByte a = s.readByte a

/-- Every byte of memory outside the `len` bytes from `base` reads as before. -/
def SameMemoryOutside (s t : State) (base len : Nat) : Prop :=
  ∀ a, a < base ∨ base + len ≤ a → t.readByte a = s.readByte a

/-- Every general register but those in `dst` is unchanged. -/
def SameRegsExcept (s t : State) (dst : List Nibble) : Prop := ∀ y, y ∉ dst → t.reg y = s.reg y

/-- Nothing but general registers in `dst` changed: not PC (which fetch has advanced), I, stack, timers, keys, display,
memory, flags of execution, latch or log. -/
def OnlyRegs (s t : State) (dst : List Nibble) : Prop :=
  t = { s with v := t.v } ∧ SameRegsExcept s t dst ∧ SameMemory s t

/-- Nothing but PC changed. -/
def OnlyPc (s t : State) : Prop := t = { s with pc := t.pc } ∧ SameMemory s t

/-- Nothing but I changed. -/
def OnlyI (s t : State) : Prop := t = { s with i := t.i } ∧ SameMemory s t

/-- Nothing but memory, inside the `len` bytes from `base`, changed. -/
def OnlyMemory (s t : State) (base len : Nat) : Prop :=
  t = { s with mem := t.mem } ∧ SameMemoryOutside s t base len

/-- The state in which an instruction of word `op`, run from `s` (after fetch), has faulted: PC is its own address, the
latch is written, and nothing else changed (R231, R232). -/
def faultedFrom (s : State) (c : Fault) (op : Word) (addr : Nat) : State :=
  { s with pc := s.pc - 2, fault := ⟨some c, s.pc - 2, op, BitVec.ofNat 17 addr⟩ }

/-! ## The sprite, cell by cell -/

/-- The sprite of `n` rows at I, drawn at (vx, vy), has a 1 bit at display cell (r, c): the cell's distance from the
start position, modulo 32 and 64, is a row below `n` and a column below 8, and that bit of that row is set, bit 7 being
the leftmost (R201). -/
def spriteBit (s : State) (vx vy : Byte) (n : Nibble) (r : Fin 32) (c : Fin 64) : Bool :=
  let row := (r.val + 32 - vy.toNat % 32) % 32
  let col := (c.val + 64 - vx.toNat % 64) % 64
  decide (row < n.toNat) && decide (col < 8) && (s.readByte (s.i.toNat + row)).getLsbD (7 - col)

end Sys2Proof.Machine
end

