-- ==== Sys2Proof/Certificates/Slice0/Obligations.lean ====
section
/-!
DEFINITION. The statements for the provers. Each docstring names the rules of spec/ it formalises; `exec` is applied to
the state after fetch, whose PC is already the address of the following instruction (spec/00_scope.md R15).
-/

open Sys2Proof Sys2Proof.Machine

/-! ## Encoding (spec/30_encoding.md) -/

/-- Every instruction, with every operand, decodes from its own bytes, and the bytes after it are left (R90 to R95).
The opcode numbers are the spec's from general knowledge (log 6). -/
def Obligations.DecodeOfEncodeIsIdentity : Prop :=
  ∀ (i : Instr) (rest : List Byte), decode (encodeBytes i ++ rest) = .ok (i, rest)

/-- A word that decodes is the word of the instruction it decodes to: no bit is dropped, the ignored ones included
(R91, R94, R95; log 7). -/
def Obligations.EncodeOfDecodeIsIdentity : Prop :=
  ∀ (op : Word) (i : Instr), decodeWord op = .ok i → encode i = op

/-- The two-level dispatch of R94 and R95 and the opcode map of R97 are one decoder: a word that decodes matches exactly
its own instruction's row, and a word that does not matches none (R97, R98). -/
def Obligations.DecoderAgreesWithOpcodeMap : Prop :=
  ∀ op : Word, (opcodeMap.filter (·.covers op)).map (·.mnemonic) =
    match decodeWord op with
    | .ok i => [i.mnemonic]
    | .error _ => []

/-- The unrecognized words are exactly R96's table: the listed secondary values of classes 0, 8, E and F. -/
def Obligations.UnrecognizedWordsAreTheTable : Prop :=
  ∀ op : Word, decodeWord op = .error (.unrecognized op) ↔
    (fieldC op = 0x0 ∧ fieldKK op ∉ [0xE0, 0xEE]) ∨
    (fieldC op = 0x8 ∧ fieldN op ∈ [0x8, 0x9, 0xA, 0xB, 0xC, 0xD, 0xF]) ∨
    (fieldC op = 0xE ∧ fieldKK op ∉ [0x9E, 0xA1]) ∨
    (fieldC op = 0xF ∧ fieldKK op ∉ [0x07, 0x0A, 0x15, 0x18, 0x1E, 0x29, 0x33, 0x55, 0x65])

/-- Words written out from R97 and R91 decode to the instructions they stand for, one of each family, one with ignored
bits set, and two that are no instruction. -/
def Obligations.WordsOfTheSpecDecode : Prop :=
  decodeWord 0x1234 = .ok (.jp 0x234) ∧ decodeWord 0x0AEE = .ok (.ret 0xA) ∧
  decodeWord 0x5127 = .ok (.seReg 1 2 7) ∧ decodeWord 0x7305 = .ok (.addImm 3 0x05) ∧
  decodeWord 0x8126 = .ok (.shr 1 2) ∧ decodeWord 0xA2F0 = .ok (.ldI 0x2F0) ∧
  decodeWord 0xD015 = .ok (.drw 0 1 5) ∧ decodeWord 0xE59E = .ok (.skp 5) ∧
  decodeWord 0xF533 = .ok (.ldB 5) ∧ decodeWord 0xF165 = .ok (.ldVxMem 1) ∧
  decodeWord 0x8128 = .error (.unrecognized 0x8128) ∧ decodeWord 0x0000 = .error (.unrecognized 0x0000)

/-! ## Register loads and arithmetic (spec/42_alu.md)

Here and below a rule is stated over the instruction. The "Encoding" numbers an instruction rule repeats are no statement
of the source but the spec's from general knowledge (spec/93_implementation_defined.md G1; log 6):
`DecoderAgreesWithOpcodeMap` states them for every instruction. -/

/-- R160, whole: effect, frame (VF among the registers left alone unless x = 0xF). Never faults. -/
def Obligations.LoadImmediate : Prop :=
  ∀ (x : Nibble) (kk : Byte) (s : State),
    ∃ t, exec (.ldImm x kk) s = .next t ∧ t.reg x = kk ∧ OnlyRegs s t [x]

/-- R161, whole: the sum modulo 256, and no flag: every register but Vx keeps its value. -/
def Obligations.AddImmediate : Prop :=
  ∀ (x : Nibble) (kk : Byte) (s : State),
    ∃ t, exec (.addImm x kk) s = .next t ∧
      (t.reg x).toNat = ((s.reg x).toNat + kk.toNat) % 256 ∧ OnlyRegs s t [x]

/-- R162, whole: Vx := Vy, and the flag register is not reset. -/
def Obligations.RegisterSet : Prop :=
  ∀ (x y : Nibble) (s : State),
    ∃ t, exec (.ldReg x y) s = .next t ∧ t.reg x = s.reg y ∧ OnlyRegs s t [x]

/-- R163, R164, R165, whole: the bitwise result of the old Vx and Vy, VF = 0 always, written after Vx. -/
def Obligations.LogicOperationsResetFlag : Prop :=
  ∀ (x y : Nibble) (s : State),
    (∃ t, exec (.orReg x y) s = .next t ∧ t.reg 0xF = 0 ∧ (x ≠ 0xF → t.reg x = s.reg x ||| s.reg y) ∧
        OnlyRegs s t [x, 0xF]) ∧
    (∃ t, exec (.andReg x y) s = .next t ∧ t.reg 0xF = 0 ∧ (x ≠ 0xF → t.reg x = s.reg x &&& s.reg y) ∧
        OnlyRegs s t [x, 0xF]) ∧
    (∃ t, exec (.xorReg x y) s = .next t ∧ t.reg 0xF = 0 ∧ (x ≠ 0xF → t.reg x = s.reg x ^^^ s.reg y) ∧
        OnlyRegs s t [x, 0xF])

/-- R166, whole: Vx = the low byte of the full sum, VF = 1 iff the full sum is above 255; with x = 0xF the carry is what
remains. -/
def Obligations.AddRegistersCarry : Prop :=
  ∀ (x y : Nibble) (s : State),
    ∃ t, exec (.addReg x y) s = .next t ∧
      t.reg 0xF = (if (s.reg x).toNat + (s.reg y).toNat > 255 then 1 else 0) ∧
      (x ≠ 0xF → (t.reg x).toNat = ((s.reg x).toNat + (s.reg y).toNat) % 256) ∧
      OnlyRegs s t [x, 0xF]

/-- R167 and R169 with the spec's latched reading of operands (its decision D2; log 8): Vx = the difference modulo 256 of
the OLD values, VF = 1 iff no borrow, written before Vx; with x = 0xF the difference is what remains. -/
def Obligations.SubtractionsBorrow : Prop :=
  ∀ (x y : Nibble) (s : State),
    (∃ t, exec (.subReg x y) s = .next t ∧
      (t.reg x).toNat = ((s.reg x).toNat + 256 - (s.reg y).toNat) % 256 ∧
      (x ≠ 0xF → t.reg 0xF = (if (s.reg x).toNat ≥ (s.reg y).toNat then 1 else 0)) ∧
      OnlyRegs s t [x, 0xF]) ∧
    (∃ t, exec (.subn x y) s = .next t ∧
      (t.reg x).toNat = ((s.reg y).toNat + 256 - (s.reg x).toNat) % 256 ∧
      (x ≠ 0xF → t.reg 0xF = (if (s.reg y).toNat ≥ (s.reg x).toNat then 1 else 0)) ∧
      OnlyRegs s t [x, 0xF])

/-- R168 and R170 with the latched reading (D2; log 8): Vx is the OLD Vy shifted by one (the old Vx is not used), VF the
bit shifted out, written before Vx; with x = 0xF the shifted value is what remains. -/
def Obligations.ShiftsOfVy : Prop :=
  ∀ (x y : Nibble) (s : State),
    (∃ t, exec (.shr x y) s = .next t ∧
      (t.reg x).toNat = (s.reg y).toNat / 2 ∧
      (x ≠ 0xF → (t.reg 0xF).toNat = (s.reg y).toNat % 2) ∧ OnlyRegs s t [x, 0xF]) ∧
    (∃ t, exec (.shl x y) s = .next t ∧
      (t.reg x).toNat = ((s.reg y).toNat * 2) % 256 ∧
      (x ≠ 0xF → (t.reg 0xF).toNat = (s.reg y).toNat / 128) ∧ OnlyRegs s t [x, 0xF])

/-! ## Control transfer (spec/41_flow.md) -/

/-- R141: PC is exactly nnn, whatever nnn is, and nothing else changes. -/
def Obligations.JumpSetsPc : Prop :=
  ∀ (nnn : Addr) (s : State), ∃ t, exec (.jp nnn) s = .next t ∧ t.pc.toNat = nnn.toNat ∧ OnlyPc s t

/-- R143: PC is nnn + V0, not reduced modulo 4096; a sum above 4094 makes the next fetch fault. -/
def Obligations.JumpWithOffset : Prop :=
  ∀ (nnn : Addr) (s : State), ∃ t, exec (.jpV0 nnn) s = .next t ∧
    t.pc.toNat = nnn.toNat + (s.reg 0).toNat ∧ OnlyPc s t ∧
    (4094 < nnn.toNat + (s.reg 0).toNat → t.fetch = none)

/-- R144 and R145, whole: PC moves on by 2 more exactly when the condition holds; no flag, no fault. -/
def Obligations.SkipOnImmediate : Prop :=
  ∀ (x : Nibble) (kk : Byte) (s : State),
    (∃ t, exec (.seImm x kk) s = .next t ∧ t.pc = (if s.reg x = kk then s.pc + 2 else s.pc) ∧ OnlyPc s t) ∧
    (∃ t, exec (.sneImm x kk) s = .next t ∧ t.pc = (if s.reg x ≠ kk then s.pc + 2 else s.pc) ∧ OnlyPc s t)

/-- R146 and R147, for every value of the ignored low nibble (R94, the spec's decision D13). -/
def Obligations.SkipOnRegisters : Prop :=
  ∀ (x y ign : Nibble) (s : State),
    (∃ t, exec (.seReg x y ign) s = .next t ∧ t.pc = (if s.reg x = s.reg y then s.pc + 2 else s.pc) ∧ OnlyPc s t) ∧
    (∃ t, exec (.sneReg x y ign) s = .next t ∧ t.pc = (if s.reg x ≠ s.reg y then s.pc + 2 else s.pc) ∧ OnlyPc s t)

/-- R142 (with the spec's stack discipline D4): with a free entry, the address of the following instruction goes to
STACK[SP], SP grows by one and PC is nnn; with none, StackOverflow, and nothing but the latch and PC changes. -/
def Obligations.CallPushesReturnAddress : Prop :=
  ∀ (nnn : Addr) (s : State),
    (∀ h : s.sp.val < 16, ∃ t, exec (.call nnn) s = .next t ∧
      t.pc.toNat = nnn.toNat ∧ t.sp.val = s.sp.val + 1 ∧ t.stack[s.sp.val] = s.pc ∧
      (∀ k : Fin 16, k.val ≠ s.sp.val → t.stack[k] = s.stack[k]) ∧
      t = { s with pc := t.pc, sp := t.sp, stack := t.stack } ∧ SameMemory s t) ∧
    (s.sp.val = 16 → exec (.call nnn) s = .next (faultedFrom s .stackOverflow (encode (.call nnn)) 0))

/-- R140 (D4): with an entry in use, PC is the newest one, SP shrinks by one and no entry is cleared; with none,
StackUnderflow. For every value of the ignored bits, which FAULT.op keeps. -/
def Obligations.ReturnPopsNewestEntry : Prop :=
  ∀ (ign : Nibble) (s : State),
    (∀ k : Fin 16, s.sp.val = k.val + 1 → ∃ t, exec (.ret ign) s = .next t ∧
      t.pc = s.stack[k] ∧ t.sp.val = k.val ∧ t = { s with pc := t.pc, sp := t.sp } ∧ SameMemory s t) ∧
    (s.sp.val = 0 → exec (.ret ign) s = .next (faultedFrom s .stackUnderflow (encode (.ret ign)) 0))

/-- R140 with R142: a return, from any state that has the stack as the call left it, goes to the instruction after the
call and leaves SP as it was before the call (spec/95_test_vectors.md T6). -/
def Obligations.CallThenReturn : Prop :=
  ∀ (nnn : Addr) (ign : Nibble) (s : State), s.sp.val < 16 →
    ∃ t, exec (.call nnn) s = .next t ∧
      ∀ u : State, u.stack = t.stack → u.sp = t.sp →
        ∃ w, exec (.ret ign) u = .next w ∧ w.pc = s.pc ∧ w.sp = s.sp

/-! ## Index register and memory (spec/43_index_memory.md) -/

/-- R180, whole: I is nnn, any nnn, and no access is made. -/
def Obligations.LoadIndex : Prop :=
  ∀ (nnn : Addr) (s : State),
    ∃ t, exec (.ldI nnn) s = .next t ∧ t.i.toNat = nnn.toNat ∧ OnlyI s t

/-- R181: modulo 65536 (the spec's decision D7) and no 12-bit mask; VF is not written. -/
def Obligations.AddToIndex : Prop :=
  ∀ (x : Nibble) (s : State), ∃ t, exec (.addI x) s = .next t ∧
    t.i.toNat = (s.i.toNat + (s.reg x).toNat) % 65536 ∧ OnlyI s t

/-- R182: FONT_GLYPH_SCALE times the whole Vx, for every scale of the parameter. Where the product passes 65535 the rule
states no value: the instruction still completes and changes I alone (log 22). -/
def Obligations.FontGlyphAddress : Prop :=
  ∀ (x : Nibble) (s : State), ∃ t, exec (.ldF x) s = .next t ∧ OnlyI s t ∧
    (s.cfg.glyphScale * (s.reg x).toNat < 65536 → t.i.toNat = s.cfg.glyphScale * (s.reg x).toNat)

/-- R183 (checks by D5, D6): inside the store range the three decimal digits go to I, I + 1, I + 2, and nothing else
changes. -/
def Obligations.BcdDigitsStored : Prop :=
  ∀ (x : Nibble) (s : State), s.memCanonical → s.i.toNat + 2 ≤ 4095 →
    (0x200 ≤ s.i.toNat ∨ s.cfg.lowmemWrite = .allow) →
    ∃ t, exec (.ldB x) s = .next t ∧
      (t.readByte s.i.toNat).toNat = (s.reg x).toNat / 100 ∧
      (t.readByte (s.i.toNat + 1)).toNat = (s.reg x).toNat / 10 % 10 ∧
      (t.readByte (s.i.toNat + 2)).toNat = (s.reg x).toNat % 10 ∧
      OnlyMemory s t s.i.toNat 3

/-- R184 (checks by D5, D6): V0..Vx go to I, I + 1, …; I and every register are unchanged. -/
def Obligations.RegisterDump : Prop :=
  ∀ (x : Nibble) (s : State), s.memCanonical → s.i.toNat + x.toNat ≤ 4095 →
    (0x200 ≤ s.i.toNat ∨ s.cfg.lowmemWrite = .allow) →
    ∃ t, exec (.ldMemVx x) s = .next t ∧
      (∀ j : Nibble, j.toNat ≤ x.toNat → t.readByte (s.i.toNat + j.toNat) = s.reg j) ∧
      OnlyMemory s t s.i.toNat (x.toNat + 1)

/-- R185 (check by D5): V0..Vx come from I, I + 1, …, from any readable address; I, memory and the other registers are
unchanged. -/
def Obligations.RegisterLoad : Prop :=
  ∀ (x : Nibble) (s : State), s.i.toNat + x.toNat ≤ 4095 →
    ∃ t, exec (.ldVxMem x) s = .next t ∧
      (∀ j : Nibble, j.toNat ≤ x.toNat → t.reg j = s.readByte (s.i.toNat + j.toNat)) ∧
      (∀ j : Nibble, x.toNat < j.toNat → t.reg j = s.reg j) ∧
      t = { s with v := t.v } ∧ SameMemory s t

/-- R184 with R185 (spec/95_test_vectors.md T7): a dump and then a load from the same I, with whatever registers in
between, give V0..Vx back and leave the registers above x alone. -/
def Obligations.DumpThenLoadRoundTrip : Prop :=
  ∀ (x : Nibble) (s : State), s.memCanonical → s.i.toNat + x.toNat ≤ 4095 →
    (0x200 ≤ s.i.toNat ∨ s.cfg.lowmemWrite = .allow) →
    ∃ t, exec (.ldMemVx x) s = .next t ∧
      ∀ regs : Vector Byte 16, ∃ w, exec (.ldVxMem x) { t with v := regs } = .next w ∧
        (∀ j : Nibble, j.toNat ≤ x.toNat → w.reg j = s.reg j) ∧
        (∀ j : Nibble, x.toNat < j.toNat → w.reg j = regs[j.toNat])

/-- R183, R184, R185, R201, R66 (decisions D3, D5, D6): an access whose range passes 4095 raises AddressOutOfRange with
address max(I, 4096); a store from below 0x200 raises ReservedWrite with address I when the policy is fault. In each case
the whole next state is the fault entry: no byte, register or cell has changed. -/
def Obligations.AccessOutsideRangeFaults : Prop :=
  ∀ (x y n : Nibble) (s : State),
    (4095 < s.i.toNat + 2 →
      exec (.ldB x) s = .next (faultedFrom s .addressOutOfRange (encode (.ldB x)) (max s.i.toNat 4096))) ∧
    (4095 < s.i.toNat + x.toNat →
      exec (.ldMemVx x) s = .next (faultedFrom s .addressOutOfRange (encode (.ldMemVx x)) (max s.i.toNat 4096))) ∧
    (4095 < s.i.toNat + x.toNat →
      exec (.ldVxMem x) s = .next (faultedFrom s .addressOutOfRange (encode (.ldVxMem x)) (max s.i.toNat 4096))) ∧
    (n ≠ 0 → 4096 < s.i.toNat + n.toNat →
      exec (.drw x y n) s = .next (faultedFrom s .addressOutOfRange (encode (.drw x y n)) (max s.i.toNat 4096))) ∧
    (s.i.toNat < 0x200 → s.cfg.lowmemWrite = .fault →
      exec (.ldB x) s = .next (faultedFrom s .reservedWrite (encode (.ldB x)) s.i.toNat)) ∧
    (s.i.toNat < 0x200 → s.cfg.lowmemWrite = .fault →
      exec (.ldMemVx x) s = .next (faultedFrom s .reservedWrite (encode (.ldMemVx x)) s.i.toNat))

/-! ## Display (spec/44_display.md) -/

/-- R200, whole: every cell 0 in the buffer and at the read port, VF not written, nothing else changed, for every value of
the ignored bits. -/
def Obligations.ClearDisplay : Prop :=
  ∀ (ign : Nibble) (s : State),
    ∃ t, exec (.cls ign) s = .next t ∧ (∀ r c, t.disp.cell r c = false) ∧
      t.displayPort = List.replicate 2048 0 ∧ t = { s with disp := t.disp } ∧ SameMemory s t

/-- R201 (bit order and wrap by D14, D15, latching by D2): the pixel loop amounts to one XOR per cell with the sprite's bit
there, and VF = 1 exactly when a set cell met a set sprite bit; no other register, I, or memory changes. For n = 0 there
is no address check. -/
def Obligations.DrawIsXorOfSprite : Prop :=
  ∀ (x y n : Nibble) (s : State), n = 0 ∨ s.i.toNat + n.toNat ≤ 4096 →
    ∃ t, exec (.drw x y n) s = .next t ∧
      (∀ r c, t.disp.cell r c = (s.disp.cell r c != spriteBit s (s.reg x) (s.reg y) n r c)) ∧
      ((∃ r c, s.disp.cell r c = true ∧ spriteBit s (s.reg x) (s.reg y) n r c = true) → t.reg 0xF = 1) ∧
      ((∀ r c, s.disp.cell r c = true → spriteBit s (s.reg x) (s.reg y) n r c = false) → t.reg 0xF = 0) ∧
      t = { s with v := t.v, disp := t.disp } ∧ SameRegsExcept s t [0xF] ∧ SameMemory s t

/-- R202 (a) and (b): drawing the same sprite twice, from registers other than VF, gives the display back, and the second
draw leaves VF = 1 if and only if the first turned at least one cell from 0 to 1. -/
def Obligations.DoubleDrawRestoresDisplay : Prop :=
  ∀ (x y n : Nibble) (s : State), x ≠ 0xF → y ≠ 0xF → n = 0 ∨ s.i.toNat + n.toNat ≤ 4096 →
    ∃ t w, exec (.drw x y n) s = .next t ∧ exec (.drw x y n) t = .next w ∧
      w.disp = s.disp ∧
      (w.reg 0xF = 1 ↔ ∃ r c, s.disp.cell r c = false ∧ t.disp.cell r c = true) ∧
      (w.reg 0xF = 0 ∨ w.reg 0xF = 1)

/-- R33 (order by D16): the read port has 2048 bytes, 0 or 1, and element 64 r + c is cell (r, c). -/
def Obligations.DisplayPortIsRowMajor : Prop :=
  ∀ s : State, s.displayPort.length = 2048 ∧
    ∀ (r : Fin 32) (c : Fin 64), s.displayPort[64 * r.val + c.val]? = some (if s.disp.cell r c then 1 else 0)

/-! ## Keys, timers, random (spec/45_keys_timers_random.md) -/

/-- R210 and R211 (the fault by D8): with Vx at most 15 the skip is decided by KEY[Vx] alone; above 15, KeyOutOfRange with
address Vx. -/
def Obligations.KeySkips : Prop :=
  ∀ (x : Nibble) (s : State),
    (∀ k : Nibble, (s.reg x).toNat = k.toNat →
      (∃ t, exec (.skp x) s = .next t ∧ t.pc = (if s.keyDown k = true then s.pc + 2 else s.pc) ∧ OnlyPc s t) ∧
      (∃ t, exec (.sknp x) s = .next t ∧ t.pc = (if s.keyDown k = false then s.pc + 2 else s.pc) ∧ OnlyPc s t)) ∧
    (15 < (s.reg x).toNat →
      exec (.skp x) s = .next (faultedFrom s .keyOutOfRange (encode (.skp x)) (s.reg x).toNat) ∧
      exec (.sknp x) s = .next (faultedFrom s .keyOutOfRange (encode (.sknp x)) (s.reg x).toNat))

/-- R212, R213, R214: the timer moves, with their frames; ST is written and sounds exactly when Vx ≠ 0 (R28). -/
def Obligations.TimerMoves : Prop :=
  ∀ (x : Nibble) (s : State),
    (∃ t, exec (.ldVxDt x) s = .next t ∧ t.reg x = s.dt ∧ OnlyRegs s t [x]) ∧
    (∃ t, exec (.ldDtVx x) s = .next t ∧ t.dt = s.reg x ∧ t = { s with dt := t.dt } ∧ SameMemory s t) ∧
    (∃ t, exec (.ldStVx x) s = .next t ∧ t.st = s.reg x ∧ (t.soundOn = true ↔ s.reg x ≠ 0) ∧
      t = { s with st := t.st } ∧ SameMemory s t)

/-- R215 (PC by D9): PAUSED and WAITING set, PC back at the instruction itself, Vx and every other piece of state as
before; the keys are not looked at. -/
def Obligations.WaitForKeyPauses : Prop :=
  ∀ (x : Nibble) (s : State), ∃ t, exec (.ldVxK x) s = .next t ∧ t.paused = true ∧ t.waiting = true ∧
    t.pc = s.pc - 2 ∧ t = { s with paused := true, waiting := true, pc := s.pc - 2 } ∧ SameMemory s t

/-- R217: Vx is the byte drawn ANDed with kk, so it has no 1 bit where kk has none, for whatever byte is drawn; VF and the
rest are unchanged. The drawn byte is the model's free value `Config.rndByte` at `rndPos`, which moves on by one
(log 9). -/
def Obligations.RandomIsMasked : Prop :=
  ∀ (x : Nibble) (kk : Byte) (s : State), ∃ t, exec (.rnd x kk) s = .next t ∧
    t.reg x = Config.rndByte s.rndPos &&& kk ∧ t.reg x &&& ~~~kk = 0 ∧ t.rndPos = s.rndPos + 1 ∧
    t = { s with v := t.v, rndPos := t.rndPos } ∧ SameRegsExcept s t [x] ∧ SameMemory s t

/-! ## Faults (spec/60_exceptions.md) -/

/-- R232 (D3): faults are precise. Whatever instruction faults, from whatever unfaulted state, the next state differs from
the state before execute in the latch and in PC, which is the instruction's own address; the latch records that address and
the instruction's word. -/
def Obligations.FaultEntryIsPrecise : Prop :=
  ∀ (i : Instr) (s t : State), s.faulted = false → exec i s = .next t → t.faulted = true →
    t = { s with pc := s.pc - 2, fault := t.fault } ∧ t.fault.pc = s.pc - 2 ∧ t.fault.op = encode i

/-- R230 (D3 to D6, D8): which instructions raise which cause, when, and with which FAULT.addr. No other instruction
faults. -/
def Obligations.FaultCausesAreTheTable : Prop :=
  ∀ (i : Instr) (s t : State) (c : Fault), s.faulted = false → exec i s = .next t → t.fault.cause = some c →
    match c with
    | .addressOutOfRange =>
      ((∃ x y n, i = .drw x y n ∧ n ≠ 0 ∧ 4096 < s.i.toNat + n.toNat) ∨
       (∃ x, i = .ldB x ∧ 4095 < s.i.toNat + 2) ∨
       (∃ x, (i = .ldMemVx x ∨ i = .ldVxMem x) ∧ 4095 < s.i.toNat + x.toNat)) ∧
      t.fault.addr.toNat = max s.i.toNat 4096
    | .stackOverflow => (∃ nnn, i = .call nnn) ∧ s.sp.val = 16 ∧ t.fault.addr = 0
    | .stackUnderflow => (∃ ign, i = .ret ign) ∧ s.sp.val = 0 ∧ t.fault.addr = 0
    | .reservedWrite =>
      (∃ x, i = .ldB x ∨ i = .ldMemVx x) ∧ s.i.toNat < 0x200 ∧ s.cfg.lowmemWrite = .fault ∧
      t.fault.addr.toNat = s.i.toNat
    | .keyOutOfRange =>
      ∃ x, (i = .skp x ∨ i = .sknp x) ∧ 15 < (s.reg x).toNat ∧ t.fault.addr.toNat = (s.reg x).toNat

/-- R123 (D5): a fetch with PC above 4094 changes nothing but the latch, with FAULT.pc = PC, FAULT.op = 0 and
FAULT.addr = max(PC, 4096). -/
def Obligations.FetchAboveMemoryFaults : Prop :=
  ∀ s : State, 4094 < s.pc.toNat →
    instrStep s = .next { s with fault := ⟨some .addressOutOfRange, s.pc, 0, BitVec.ofNat 17 (max s.pc.toNat 4096)⟩ }

/-- R234, R235 (D3, D23): while faulted, TICK and SET_KEY change nothing; RESET and LOAD clear the latch. -/
def Obligations.FaultedCoreWaitsForReset : Prop :=
  ∀ s : State, s.faulted = true →
    tick s = .next s ∧ (∀ id pressed, cmdSetKey id pressed s = s) ∧
    (cmdReset s).fault = ⟨none, 0, 0, 0⟩ ∧ (∀ program, (cmdLoad program s).fault = ⟨none, 0, 0, 0⟩)

/-! ## Steps -/

/-- R122 (and R126, R232 for what stands around it): when the two bytes at PC decode to `i`, the machine's step is `exec i`
at the state with PC + 2. The model counts the rest of the TICK around it (log 2): a fault ends the TICK, its last step is
followed by the timer step, any other step leaves one step less to run. -/
def Obligations.StepRunsDecodedInstruction : Prop :=
  ∀ (s t : State) (i : Instr), s.aboutToFetch = true → s.pc.toNat ≤ 4094 →
    decode [s.readByte s.pc.toNat, s.readByte (s.pc.toNat + 1)] = .ok (i, []) →
    exec i { s with pc := s.pc + 2 } = .next t →
    let left := if s.inTick then s.burst else s.cfg.clockSpeed
    (t.faulted = true → step s = .next { t with burst := 0 }) ∧
    (t.faulted = false → left = 1 →
      step s = .next { t with dt := countDown t.dt, st := countDown t.st, burst := 0 }) ∧
    (t.faulted = false → 1 < left → step s = .next { t with burst := left - 1 })

/-- R125, R237 (event content by D24): an unrecognized word at PC moves PC on by 2 and adds one event with the word and its
address; nothing else changes, and it is no fault. -/
def Obligations.UnrecognizedOpcodeIsAnEvent : Prop :=
  ∀ (s : State) (op : Word) (e : DecodeError), s.fetch = some op → decodeWord op = .error e →
    instrStep s = .next { s with pc := s.pc + 2, events := s.events ++ [.unknownOpcode op s.pc] }

/-- No step of the machine, from any state, ends in a fault outcome or a refusal: faults are taken (log 1), and every
instruction has its meaning (R128, R98). -/
def Obligations.StepAlwaysAnswersNext : Prop :=
  ∀ s : State, ∃ t, step s = .next t

/-- A table word placed by the host's `withFetchWord` is the word the next step fetches, and the next step does fetch
(R60, R71; log 4). From reset nothing but memory has changed. -/
def Obligations.PlacedWordIsFetchedNext : Prop :=
  (∀ (s : State) (nbits w : Nat), s.memCanonical →
    (s.withFetchWord nbits w).aboutToFetch = true ∧ (s.withFetchWord nbits w).fetch = some (tableWord nbits w)) ∧
  (∀ w : Nat, State.reset.withFetchWord 16 w = { State.reset with mem := (State.reset.withFetchWord 16 w).mem })

/-! ## TICK and the host (spec/40_cycle.md, spec/60_exceptions.md) -/

/-- R126: each timer counts down by one and stops at 0, and nothing else changes. -/
def Obligations.TimerStepCountsDown : Prop :=
  ∀ s : State, (timerStep s).dt.toNat = s.dt.toNat - 1 ∧ (timerStep s).st.toNat = s.st.toNat - 1 ∧
    timerStep s = { s with dt := (timerStep s).dt, st := (timerStep s).st }

/-- R120, R121, R126: the machine's steps run TICK (one STEP a machine step, log 2; with no command pending the host issues
a TICK, log 3). From an idle state, a TICK that does not fault is exactly CLOCK_SPEED machine steps, and one when
CLOCK_SPEED is 0; one that faults is some number of them, at most that. -/
def Obligations.BurstOfStepsReachesTick : Prop :=
  ∀ s t : State, s.burst = 0 → s.inbox = [] → s.faulted = false → s.paused = false → tick s = .next t →
    (t.faulted = false → RunsTo (max 1 s.cfg.clockSpeed) s t) ∧
    (t.faulted = true → ∃ k, 1 ≤ k ∧ k ≤ max 1 s.cfg.clockSpeed ∧ RunsTo k s t)

/-- R8, R76 (the inbox is the model's; log 3): a pending host command, delivered by machine steps, reaches exactly the state
its atomic definition gives, and the commands behind it are untouched until then. -/
def Obligations.PendingCommandsAreAtomic : Prop :=
  ∀ (c : Command) (cs : List Command) (s t : State), s.burst = 0 → s.inbox = c :: cs →
    command c { s with inbox := cs } = .next t →
    ∃ k, 1 ≤ k ∧ k ≤ max 1 s.cfg.clockSpeed ∧ RunsTo k s t

/-- R127: stopping a burst at the first step that sets PAUSED reaches the same state as the full burst of R121. -/
def Obligations.EarlyExitEqualsFullBurst : Prop :=
  ∀ (n : Nat) (s : State), s.paused = false → runBurstEarly n s = runBurst n s

/-- R215 with R120, R240 and R241 (spec/95_test_vectors.md T9; D9): a TICK that starts at a wait-for-key instruction
pauses there, counts the timers once, and the next TICK changes nothing; then a press of any key `id` puts `id` in Vx,
clears both flags and moves PC past the instruction. -/
def Obligations.WaitForKeyUntilPress : Prop :=
  ∀ (x : Nibble) (s : State), s.faulted = false → s.paused = false → s.cfg.clockSpeed ≠ 0 →
    s.fetch = some (encode (.ldVxK x)) →
    ∃ t, tick s = .next t ∧
      t = { s with paused := true, waiting := true, dt := countDown s.dt, st := countDown s.st } ∧
      tick t = .next t ∧
      ∀ id : Nibble, ((cmdSetKey id true t).reg x).toNat = id.toNat ∧ (cmdSetKey id true t).pc = s.pc + 2 ∧
        (cmdSetKey id true t).paused = false ∧ (cmdSetKey id true t).waiting = false

/-- R240, R241 (D9, D25): a press while WAITING at a wait instruction for Vx latches the key, writes its number to Vx,
clears PAUSED and WAITING and moves PC on by 2; nothing else changes. -/
def Obligations.KeyPressCompletesWait : Prop :=
  ∀ (x id : Nibble) (s : State), s.faulted = false → s.waiting = true → s.fetch = some (encode (.ldVxK x)) →
    let t := cmdSetKey id true s
    (t.reg x).toNat = id.toNat ∧ SameRegsExcept s t [x] ∧ t.keyDown id = true ∧
    (∀ k, k ≠ id → t.keyDown k = s.keyDown k) ∧
    t = { s with v := t.v, key := t.key, pc := s.pc + 2, paused := false, waiting := false } ∧ SameMemory s t

/-- R29, whole: a SET_KEY sets the one entry to `pressed` (while not faulted), and a release, or a press while not WAITING,
changes nothing else; of the two a press alone ends a wait; RESET and power-on leave every key up; no instruction writes
a key; the two key skips read KEY[Vx],
and no other instruction reads a key: with other keys it does the same, wait-for-key included; a TICK, whatever it runs,
changes no key and ends no wait, whichever keys are down. -/
def Obligations.KeyLatch : Prop :=
  (∀ (id : Nibble) (pressed : Bool) (s : State), s.faulted = false →
    (cmdSetKey id pressed s).keyDown id = pressed ∧
    (∀ k, k ≠ id → (cmdSetKey id pressed s).keyDown k = s.keyDown k) ∧
    (s.waiting = false ∨ pressed = false → cmdSetKey id pressed s = { s with key := (cmdSetKey id pressed s).key }) ∧
    (s.waiting = true → (cmdSetKey id pressed s).waiting = !pressed)) ∧
  (∀ (s : State) (k : Nibble), (cmdReset s).keyDown k = false ∧ State.powerOn.keyDown k = false) ∧
  (∀ (i : Instr) (s t : State), exec i s = .next t → t.key = s.key) ∧
  (∀ (x k : Nibble) (s : State), (s.reg x).toNat = k.toNat →
    exec (.skp x) s = .next { s with pc := if s.keyDown k = true then s.pc + 2 else s.pc } ∧
    exec (.sknp x) s = .next { s with pc := if s.keyDown k = true then s.pc else s.pc + 2 }) ∧
  (∀ (i : Instr) (s t : State) (keys : Vector Bool 16), (∀ x, i ≠ .skp x ∧ i ≠ .sknp x) → exec i s = .next t →
    exec i { s with key := keys } = .next { t with key := keys }) ∧
  (∀ s t : State, tick s = .next t → t.key = s.key ∧ (s.waiting = true → t.waiting = true))

/-- R246, whole: the wait-for-key instruction sets PAUSED and WAITING, in every state, and no other instruction changes
either; while both are 1 a TICK changes nothing at all, a release does not wake the core, and each of a press of any key,
RESET and LOAD does. -/
def Obligations.KeyWaitIsTheOneLowActivityState : Prop :=
  (∀ (x : Nibble) (s : State), ∃ t, exec (.ldVxK x) s = .next t ∧ t.paused = true ∧ t.waiting = true) ∧
  (∀ (i : Instr) (s t : State), exec i s = .next t → t.paused ≠ s.paused ∨ t.waiting ≠ s.waiting →
    (∃ x, i = .ldVxK x) ∧ t.paused = true ∧ t.waiting = true) ∧
  ∀ s : State, s.faulted = false → s.paused = true → s.waiting = true →
    tick s = .next s ∧
    (∀ id, (cmdSetKey id false s).paused = true ∧ (cmdSetKey id false s).waiting = true) ∧
    (∀ id, (cmdSetKey id true s).paused = false ∧ (cmdSetKey id true s).waiting = false) ∧
    (cmdReset s).paused = false ∧ (cmdReset s).waiting = false ∧
    (∀ program, (cmdLoad program s).paused = false ∧ (cmdLoad program s).waiting = false)

/-! ## Reset, LOAD, power-on (spec/70_reset_and_hazards.md) -/

/-- R271, R40 (fault latch by D3): every element of the state after RESET, from any state; CLOCK_SPEED and the other
parameters, the event log and the random stream are unchanged. -/
def Obligations.ResetValues : Prop :=
  ∀ s : State, let t := cmdReset s
    (∀ x, t.reg x = 0) ∧ t.i = 0 ∧ t.pc = 0x0200 ∧ t.sp.val = 0 ∧ (∀ k : Fin 16, t.stack[k] = 0) ∧
    t.dt = 0 ∧ t.st = 0 ∧ (∀ k, t.keyDown k = false) ∧ (∀ r c, t.disp.cell r c = false) ∧
    t.paused = false ∧ t.waiting = false ∧ t.fault = ⟨none, 0, 0, 0⟩ ∧
    (∀ j : Fin 80, t.readByte j.val = s.cfg.fontTable[j]) ∧
    (∀ a, 80 ≤ a → a < 4096 → t.readByte a = 0) ∧
    t.cfg = s.cfg ∧ t.events = s.events ∧ t.rndPos = s.rndPos

/-- R272 (D18, D29): a program of at most 3584 bytes is copied to 0x200 on, over a reset state, whatever ran before, and
LOAD answers ok; a longer one leaves the reset state and LOAD answers LoadOverflow. -/
def Obligations.LoadPlacesProgram : Prop :=
  ∀ (program : List Byte) (s : State), let t := cmdLoad program s
    (program.length ≤ 3584 →
      t.loadStatus = some .ok ∧ (∀ j (h : j < program.length), t.readByte (0x200 + j) = program[j]) ∧
      OnlyMemory { cmdReset s with loadStatus := some .ok } t 0x200 program.length) ∧
    (3584 < program.length → t = { cmdReset s with loadStatus := some .loadOverflow })

/-- R270, R40 (D19): power-on is all zero, memory without a font, PC = 0, no fault, CLOCK_SPEED = 10. -/
def Obligations.PowerOnIsZero : Prop :=
  let t := State.powerOn
  (∀ a, a < 4096 → t.readByte a = 0) ∧ (∀ x, t.reg x = 0) ∧ t.i = 0 ∧ t.pc = 0 ∧ t.sp.val = 0 ∧
  (∀ k : Fin 16, t.stack[k] = 0) ∧ t.dt = 0 ∧ t.st = 0 ∧ (∀ k, t.keyDown k = false) ∧
  (∀ r c, t.disp.cell r c = false) ∧ t.paused = false ∧ t.waiting = false ∧ t.fault = ⟨none, 0, 0, 0⟩ ∧
  t.events = [] ∧ t.cfg.clockSpeed = 10

/-! ## Invariants and whole-machine rules -/

/-- The state after reset and the state at power-on satisfy the invariant (R40, R270), and memory below 0x200 is intact
after reset. -/
def Obligations.ResetSatisfiesInvariant : Prop :=
  State.reset.Inv ∧ State.reset.lowMemoryIntact ∧ State.powerOn.Inv

/-- Every step, whichever instruction or host command it runs, keeps the invariant: memory canonical, PAUSED = WAITING and
a wait only at a wait instruction (R35, R38), the latch zero without a fault and at PC with one (R37, R232), PC at most
0x10FE and stack entries at most 4096 (R22), at most CLOCK_SPEED steps left (R121). -/
def Obligations.StepKeepsInvariant : Prop :=
  ∀ s t : State, s.Inv → step s = .next t → t.Inv

/-- R66, R65 (D6): with LOWMEM_WRITE_POLICY = fault, no step changes memory below 0x200 from what RESET put there. -/
def Obligations.LowMemoryStaysIntact : Prop :=
  ∀ s t : State, s.cfg.lowmemWrite = .fault → s.lowMemoryIntact → step s = .next t → t.lowMemoryIntact

/-- R36, R39, R32: no step changes a parameter, and the diagnostics log only grows at its end. -/
def Obligations.ParametersFixedAndLogGrows : Prop :=
  ∀ s t : State, step s = .next t → t.cfg = s.cfg ∧ s.events <+: t.events

/-- R20, R23, R25 to R30, R33 to R35, R39, R62: which instructions write which state. Any instruction not named for a
piece of state leaves it as it was, whatever its operands. -/
def Obligations.OnlyNamedInstructionsWriteState : Prop :=
  ∀ (i : Instr) (s t : State), exec i s = .next t →
    (t.mem ≠ s.mem → ∃ x, i = .ldB x ∨ i = .ldMemVx x) ∧
    (t.i ≠ s.i → (∃ nnn, i = .ldI nnn) ∨ ∃ x, i = .addI x ∨ i = .ldF x) ∧
    (t.stack ≠ s.stack → ∃ nnn, i = .call nnn) ∧
    (t.sp ≠ s.sp → (∃ nnn, i = .call nnn) ∨ ∃ ign, i = .ret ign) ∧
    (t.dt ≠ s.dt → ∃ x, i = .ldDtVx x) ∧
    (t.st ≠ s.st → ∃ x, i = .ldStVx x) ∧
    (t.disp ≠ s.disp → (∃ ign, i = .cls ign) ∨ ∃ x y n, i = .drw x y n) ∧
    (t.paused ≠ s.paused ∨ t.waiting ≠ s.waiting → ∃ x, i = .ldVxK x) ∧
    (t.v ≠ s.v →
      (∃ x kk, i = .ldImm x kk ∨ i = .addImm x kk ∨ i = .rnd x kk) ∨
      (∃ x y, i = .ldReg x y ∨ i = .orReg x y ∨ i = .andReg x y ∨ i = .xorReg x y ∨ i = .addReg x y ∨
        i = .subReg x y ∨ i = .shr x y ∨ i = .subn x y ∨ i = .shl x y) ∨
      (∃ x y n, i = .drw x y n) ∨ ∃ x, i = .ldVxDt x ∨ i = .ldVxMem x) ∧
    t.key = s.key ∧ t.cfg = s.cfg ∧ t.events = s.events ∧ t.burst = s.burst ∧ t.inbox = s.inbox ∧
    t.loadStatus = s.loadStatus

/-- Memory is data in one canonical form: two canonical memories that read the same at every address are equal
(log 10). -/
def Obligations.CanonicalMemoriesAreEqualData : Prop :=
  ∀ (bg : Nat → Byte) (m m' : Memory), Memory.wf bg m → Memory.wf bg m' →
    (∀ a, Memory.read bg m a = Memory.read bg m' a) → m = m'
end

