-- ==== Sys2Proof/Laws/Encoding.lean ====
section
/-!
SUPPORT. Fields of the three encoding formats (spec/30_encoding.md R91, R92): what each field of an encoded word reads
as, bit by bit.
-/

namespace Sys2Proof

variable (c x y n : Nibble) (kk : Byte) (nnn : Addr)

@[simp] theorem fieldC_formatA : fieldC (formatA c nnn) = c := by
  refine BitVec.eq_of_getLsbD_eq fun i hi => ?_
  interval_cases i <;> simp [fieldC, formatA, fieldAt]

@[simp] theorem fieldNNN_formatA : fieldNNN (formatA c nnn) = nnn := by
  refine BitVec.eq_of_getLsbD_eq fun i hi => ?_
  interval_cases i <;> simp [fieldNNN, formatA, fieldAt]

@[simp] theorem fieldC_formatI : fieldC (formatI c x kk) = c := by
  refine BitVec.eq_of_getLsbD_eq fun i hi => ?_
  interval_cases i <;> simp [fieldC, formatI, fieldAt]

@[simp] theorem fieldX_formatI : fieldX (formatI c x kk) = x := by
  refine BitVec.eq_of_getLsbD_eq fun i hi => ?_
  interval_cases i <;> simp [fieldX, formatI, fieldAt]

@[simp] theorem fieldKK_formatI : fieldKK (formatI c x kk) = kk := by
  refine BitVec.eq_of_getLsbD_eq fun i hi => ?_
  interval_cases i <;> simp [fieldKK, formatI, fieldAt]

@[simp] theorem fieldC_formatR : fieldC (formatR c x y n) = c := by
  refine BitVec.eq_of_getLsbD_eq fun i hi => ?_
  interval_cases i <;> simp [fieldC, formatR, fieldAt]

@[simp] theorem fieldX_formatR : fieldX (formatR c x y n) = x := by
  refine BitVec.eq_of_getLsbD_eq fun i hi => ?_
  interval_cases i <;> simp [fieldX, formatR, fieldAt]

@[simp] theorem fieldY_formatR : fieldY (formatR c x y n) = y := by
  refine BitVec.eq_of_getLsbD_eq fun i hi => ?_
  interval_cases i <;> simp [fieldY, formatR, fieldAt]

@[simp] theorem fieldN_formatR : fieldN (formatR c x y n) = n := by
  refine BitVec.eq_of_getLsbD_eq fun i hi => ?_
  interval_cases i <;> simp [fieldN, formatR, fieldAt]

/-- The bytes of a word, put together again, are the word (R60). -/
@[simp] theorem wordOfBytes_bytesOfWord (op : Word) :
    wordOfBytes (op.extractLsb' 8 8) (op.extractLsb' 0 8) = op := by
  refine BitVec.eq_of_getLsbD_eq fun i hi => ?_
  interval_cases i <;> simp [wordOfBytes, fieldAt]

/-! The masks of the opcode map (R97) clear the operand bits and keep the fixed ones. -/

theorem formatA_mask_class : formatA c nnn &&& 0xF000 = formatA c 0 := by
  refine BitVec.eq_of_getLsbD_eq fun i hi => ?_
  interval_cases i <;> simp [formatA, fieldAt]

theorem formatI_mask_class : formatI c x kk &&& 0xF000 = formatI c 0 0 := by
  refine BitVec.eq_of_getLsbD_eq fun i hi => ?_
  interval_cases i <;> simp [formatI, fieldAt]

theorem formatI_mask_function : formatI c x kk &&& 0xF0FF = formatI c 0 kk := by
  refine BitVec.eq_of_getLsbD_eq fun i hi => ?_
  interval_cases i <;> simp [formatI, fieldAt]

theorem formatR_mask_class : formatR c x y n &&& 0xF000 = formatR c 0 0 0 := by
  refine BitVec.eq_of_getLsbD_eq fun i hi => ?_
  interval_cases i <;> simp [formatR, fieldAt]

theorem formatR_mask_function : formatR c x y n &&& 0xF00F = formatR c 0 0 n := by
  refine BitVec.eq_of_getLsbD_eq fun i hi => ?_
  interval_cases i <;> simp [formatR, fieldAt]

end Sys2Proof
end

