-- ==== Sys2Proof/Laws/State.lean ====
section
/-!
SUPPORT. One lemma per field per update of State, and per derived read an update does not touch: each by rfl and in
the simp set, so that no later proof unfolds a record update.
-/

namespace Sys2Proof.Machine

variable (s : State)

/-! ### setReg -/

@[simp] theorem State.setReg_v (x : Nibble) (b : Byte) : (s.setReg x b).v = s.v.set x.toNat b x.isLt := rfl
@[simp] theorem State.setReg_i (x : Nibble) (b : Byte) : (s.setReg x b).i = s.i := rfl
@[simp] theorem State.setReg_pc (x : Nibble) (b : Byte) : (s.setReg x b).pc = s.pc := rfl
@[simp] theorem State.setReg_stack (x : Nibble) (b : Byte) : (s.setReg x b).stack = s.stack := rfl
@[simp] theorem State.setReg_sp (x : Nibble) (b : Byte) : (s.setReg x b).sp = s.sp := rfl
@[simp] theorem State.setReg_dt (x : Nibble) (b : Byte) : (s.setReg x b).dt = s.dt := rfl
@[simp] theorem State.setReg_st (x : Nibble) (b : Byte) : (s.setReg x b).st = s.st := rfl
@[simp] theorem State.setReg_key (x : Nibble) (b : Byte) : (s.setReg x b).key = s.key := rfl
@[simp] theorem State.setReg_mem (x : Nibble) (b : Byte) : (s.setReg x b).mem = s.mem := rfl
@[simp] theorem State.setReg_disp (x : Nibble) (b : Byte) : (s.setReg x b).disp = s.disp := rfl
@[simp] theorem State.setReg_paused (x : Nibble) (b : Byte) : (s.setReg x b).paused = s.paused := rfl
@[simp] theorem State.setReg_waiting (x : Nibble) (b : Byte) : (s.setReg x b).waiting = s.waiting := rfl
@[simp] theorem State.setReg_fault (x : Nibble) (b : Byte) : (s.setReg x b).fault = s.fault := rfl
@[simp] theorem State.setReg_events (x : Nibble) (b : Byte) : (s.setReg x b).events = s.events := rfl
@[simp] theorem State.setReg_cfg (x : Nibble) (b : Byte) : (s.setReg x b).cfg = s.cfg := rfl
@[simp] theorem State.setReg_loadStatus (x : Nibble) (b : Byte) : (s.setReg x b).loadStatus = s.loadStatus := rfl
@[simp] theorem State.setReg_rndPos (x : Nibble) (b : Byte) : (s.setReg x b).rndPos = s.rndPos := rfl
@[simp] theorem State.setReg_burst (x : Nibble) (b : Byte) : (s.setReg x b).burst = s.burst := rfl
@[simp] theorem State.setReg_inbox (x : Nibble) (b : Byte) : (s.setReg x b).inbox = s.inbox := rfl
@[simp] theorem State.setReg_keyDown (x : Nibble) (b : Byte) (k' : Nibble) : (s.setReg x b).keyDown k' = s.keyDown k' := rfl
@[simp] theorem State.setReg_readByte (x : Nibble) (b : Byte) (a' : Nat) : (s.setReg x b).readByte a' = s.readByte a' := rfl
@[simp] theorem State.setReg_readBytes (x : Nibble) (b : Byte) (a' n' : Nat) : (s.setReg x b).readBytes a' n' = s.readBytes a' n' := rfl
@[simp] theorem State.setReg_fetch (x : Nibble) (b : Byte) : (s.setReg x b).fetch = s.fetch := rfl
@[simp] theorem State.setReg_faulted (x : Nibble) (b : Byte) : (s.setReg x b).faulted = s.faulted := rfl
@[simp] theorem State.setReg_base (x : Nibble) (b : Byte) : (s.setReg x b).base = s.base := rfl
@[simp] theorem State.setReg_instrAddr (x : Nibble) (b : Byte) : (s.setReg x b).instrAddr = s.instrAddr := rfl

/-! ### setRegs -/

@[simp] theorem State.setRegs_v (regs : Vector Byte 16) : (s.setRegs regs).v = regs := rfl
@[simp] theorem State.setRegs_i (regs : Vector Byte 16) : (s.setRegs regs).i = s.i := rfl
@[simp] theorem State.setRegs_pc (regs : Vector Byte 16) : (s.setRegs regs).pc = s.pc := rfl
@[simp] theorem State.setRegs_stack (regs : Vector Byte 16) : (s.setRegs regs).stack = s.stack := rfl
@[simp] theorem State.setRegs_sp (regs : Vector Byte 16) : (s.setRegs regs).sp = s.sp := rfl
@[simp] theorem State.setRegs_dt (regs : Vector Byte 16) : (s.setRegs regs).dt = s.dt := rfl
@[simp] theorem State.setRegs_st (regs : Vector Byte 16) : (s.setRegs regs).st = s.st := rfl
@[simp] theorem State.setRegs_key (regs : Vector Byte 16) : (s.setRegs regs).key = s.key := rfl
@[simp] theorem State.setRegs_mem (regs : Vector Byte 16) : (s.setRegs regs).mem = s.mem := rfl
@[simp] theorem State.setRegs_disp (regs : Vector Byte 16) : (s.setRegs regs).disp = s.disp := rfl
@[simp] theorem State.setRegs_paused (regs : Vector Byte 16) : (s.setRegs regs).paused = s.paused := rfl
@[simp] theorem State.setRegs_waiting (regs : Vector Byte 16) : (s.setRegs regs).waiting = s.waiting := rfl
@[simp] theorem State.setRegs_fault (regs : Vector Byte 16) : (s.setRegs regs).fault = s.fault := rfl
@[simp] theorem State.setRegs_events (regs : Vector Byte 16) : (s.setRegs regs).events = s.events := rfl
@[simp] theorem State.setRegs_cfg (regs : Vector Byte 16) : (s.setRegs regs).cfg = s.cfg := rfl
@[simp] theorem State.setRegs_loadStatus (regs : Vector Byte 16) : (s.setRegs regs).loadStatus = s.loadStatus := rfl
@[simp] theorem State.setRegs_rndPos (regs : Vector Byte 16) : (s.setRegs regs).rndPos = s.rndPos := rfl
@[simp] theorem State.setRegs_burst (regs : Vector Byte 16) : (s.setRegs regs).burst = s.burst := rfl
@[simp] theorem State.setRegs_inbox (regs : Vector Byte 16) : (s.setRegs regs).inbox = s.inbox := rfl
@[simp] theorem State.setRegs_keyDown (regs : Vector Byte 16) (k' : Nibble) : (s.setRegs regs).keyDown k' = s.keyDown k' := rfl
@[simp] theorem State.setRegs_readByte (regs : Vector Byte 16) (a' : Nat) : (s.setRegs regs).readByte a' = s.readByte a' := rfl
@[simp] theorem State.setRegs_readBytes (regs : Vector Byte 16) (a' n' : Nat) : (s.setRegs regs).readBytes a' n' = s.readBytes a' n' := rfl
@[simp] theorem State.setRegs_fetch (regs : Vector Byte 16) : (s.setRegs regs).fetch = s.fetch := rfl
@[simp] theorem State.setRegs_faulted (regs : Vector Byte 16) : (s.setRegs regs).faulted = s.faulted := rfl
@[simp] theorem State.setRegs_base (regs : Vector Byte 16) : (s.setRegs regs).base = s.base := rfl
@[simp] theorem State.setRegs_instrAddr (regs : Vector Byte 16) : (s.setRegs regs).instrAddr = s.instrAddr := rfl

/-! ### setI -/

@[simp] theorem State.setI_v (w : Word) : (s.setI w).v = s.v := rfl
@[simp] theorem State.setI_i (w : Word) : (s.setI w).i = w := rfl
@[simp] theorem State.setI_pc (w : Word) : (s.setI w).pc = s.pc := rfl
@[simp] theorem State.setI_stack (w : Word) : (s.setI w).stack = s.stack := rfl
@[simp] theorem State.setI_sp (w : Word) : (s.setI w).sp = s.sp := rfl
@[simp] theorem State.setI_dt (w : Word) : (s.setI w).dt = s.dt := rfl
@[simp] theorem State.setI_st (w : Word) : (s.setI w).st = s.st := rfl
@[simp] theorem State.setI_key (w : Word) : (s.setI w).key = s.key := rfl
@[simp] theorem State.setI_mem (w : Word) : (s.setI w).mem = s.mem := rfl
@[simp] theorem State.setI_disp (w : Word) : (s.setI w).disp = s.disp := rfl
@[simp] theorem State.setI_paused (w : Word) : (s.setI w).paused = s.paused := rfl
@[simp] theorem State.setI_waiting (w : Word) : (s.setI w).waiting = s.waiting := rfl
@[simp] theorem State.setI_fault (w : Word) : (s.setI w).fault = s.fault := rfl
@[simp] theorem State.setI_events (w : Word) : (s.setI w).events = s.events := rfl
@[simp] theorem State.setI_cfg (w : Word) : (s.setI w).cfg = s.cfg := rfl
@[simp] theorem State.setI_loadStatus (w : Word) : (s.setI w).loadStatus = s.loadStatus := rfl
@[simp] theorem State.setI_rndPos (w : Word) : (s.setI w).rndPos = s.rndPos := rfl
@[simp] theorem State.setI_burst (w : Word) : (s.setI w).burst = s.burst := rfl
@[simp] theorem State.setI_inbox (w : Word) : (s.setI w).inbox = s.inbox := rfl
@[simp] theorem State.setI_reg (w : Word) (y : Nibble) : (s.setI w).reg y = s.reg y := rfl
@[simp] theorem State.setI_keyDown (w : Word) (k' : Nibble) : (s.setI w).keyDown k' = s.keyDown k' := rfl
@[simp] theorem State.setI_readByte (w : Word) (a' : Nat) : (s.setI w).readByte a' = s.readByte a' := rfl
@[simp] theorem State.setI_readBytes (w : Word) (a' n' : Nat) : (s.setI w).readBytes a' n' = s.readBytes a' n' := rfl
@[simp] theorem State.setI_fetch (w : Word) : (s.setI w).fetch = s.fetch := rfl
@[simp] theorem State.setI_faulted (w : Word) : (s.setI w).faulted = s.faulted := rfl
@[simp] theorem State.setI_instrAddr (w : Word) : (s.setI w).instrAddr = s.instrAddr := rfl
@[simp] theorem State.setI_regRun (w : Word) (y : Nibble) : (s.setI w).regRun y = s.regRun y := rfl

/-! ### setPc -/

@[simp] theorem State.setPc_v (w : Word) : (s.setPc w).v = s.v := rfl
@[simp] theorem State.setPc_i (w : Word) : (s.setPc w).i = s.i := rfl
@[simp] theorem State.setPc_pc (w : Word) : (s.setPc w).pc = w := rfl
@[simp] theorem State.setPc_stack (w : Word) : (s.setPc w).stack = s.stack := rfl
@[simp] theorem State.setPc_sp (w : Word) : (s.setPc w).sp = s.sp := rfl
@[simp] theorem State.setPc_dt (w : Word) : (s.setPc w).dt = s.dt := rfl
@[simp] theorem State.setPc_st (w : Word) : (s.setPc w).st = s.st := rfl
@[simp] theorem State.setPc_key (w : Word) : (s.setPc w).key = s.key := rfl
@[simp] theorem State.setPc_mem (w : Word) : (s.setPc w).mem = s.mem := rfl
@[simp] theorem State.setPc_disp (w : Word) : (s.setPc w).disp = s.disp := rfl
@[simp] theorem State.setPc_paused (w : Word) : (s.setPc w).paused = s.paused := rfl
@[simp] theorem State.setPc_waiting (w : Word) : (s.setPc w).waiting = s.waiting := rfl
@[simp] theorem State.setPc_fault (w : Word) : (s.setPc w).fault = s.fault := rfl
@[simp] theorem State.setPc_events (w : Word) : (s.setPc w).events = s.events := rfl
@[simp] theorem State.setPc_cfg (w : Word) : (s.setPc w).cfg = s.cfg := rfl
@[simp] theorem State.setPc_loadStatus (w : Word) : (s.setPc w).loadStatus = s.loadStatus := rfl
@[simp] theorem State.setPc_rndPos (w : Word) : (s.setPc w).rndPos = s.rndPos := rfl
@[simp] theorem State.setPc_burst (w : Word) : (s.setPc w).burst = s.burst := rfl
@[simp] theorem State.setPc_inbox (w : Word) : (s.setPc w).inbox = s.inbox := rfl
@[simp] theorem State.setPc_reg (w : Word) (y : Nibble) : (s.setPc w).reg y = s.reg y := rfl
@[simp] theorem State.setPc_keyDown (w : Word) (k' : Nibble) : (s.setPc w).keyDown k' = s.keyDown k' := rfl
@[simp] theorem State.setPc_readByte (w : Word) (a' : Nat) : (s.setPc w).readByte a' = s.readByte a' := rfl
@[simp] theorem State.setPc_readBytes (w : Word) (a' n' : Nat) : (s.setPc w).readBytes a' n' = s.readBytes a' n' := rfl
@[simp] theorem State.setPc_faulted (w : Word) : (s.setPc w).faulted = s.faulted := rfl
@[simp] theorem State.setPc_base (w : Word) : (s.setPc w).base = s.base := rfl
@[simp] theorem State.setPc_regRun (w : Word) (y : Nibble) : (s.setPc w).regRun y = s.regRun y := rfl

/-! ### advance -/

@[simp] theorem State.advance_v : (s.advance).v = s.v := rfl
@[simp] theorem State.advance_i : (s.advance).i = s.i := rfl
@[simp] theorem State.advance_pc : (s.advance).pc = s.pc + 2 := rfl
@[simp] theorem State.advance_stack : (s.advance).stack = s.stack := rfl
@[simp] theorem State.advance_sp : (s.advance).sp = s.sp := rfl
@[simp] theorem State.advance_dt : (s.advance).dt = s.dt := rfl
@[simp] theorem State.advance_st : (s.advance).st = s.st := rfl
@[simp] theorem State.advance_key : (s.advance).key = s.key := rfl
@[simp] theorem State.advance_mem : (s.advance).mem = s.mem := rfl
@[simp] theorem State.advance_disp : (s.advance).disp = s.disp := rfl
@[simp] theorem State.advance_paused : (s.advance).paused = s.paused := rfl
@[simp] theorem State.advance_waiting : (s.advance).waiting = s.waiting := rfl
@[simp] theorem State.advance_fault : (s.advance).fault = s.fault := rfl
@[simp] theorem State.advance_events : (s.advance).events = s.events := rfl
@[simp] theorem State.advance_cfg : (s.advance).cfg = s.cfg := rfl
@[simp] theorem State.advance_loadStatus : (s.advance).loadStatus = s.loadStatus := rfl
@[simp] theorem State.advance_rndPos : (s.advance).rndPos = s.rndPos := rfl
@[simp] theorem State.advance_burst : (s.advance).burst = s.burst := rfl
@[simp] theorem State.advance_inbox : (s.advance).inbox = s.inbox := rfl
@[simp] theorem State.advance_reg (y : Nibble) : (s.advance).reg y = s.reg y := rfl
@[simp] theorem State.advance_keyDown (k' : Nibble) : (s.advance).keyDown k' = s.keyDown k' := rfl
@[simp] theorem State.advance_readByte (a' : Nat) : (s.advance).readByte a' = s.readByte a' := rfl
@[simp] theorem State.advance_readBytes (a' n' : Nat) : (s.advance).readBytes a' n' = s.readBytes a' n' := rfl
@[simp] theorem State.advance_faulted : (s.advance).faulted = s.faulted := rfl
@[simp] theorem State.advance_base : (s.advance).base = s.base := rfl
@[simp] theorem State.advance_regRun (y : Nibble) : (s.advance).regRun y = s.regRun y := rfl

/-! ### setStack -/

@[simp] theorem State.setStack_v (e : Vector Word 16) (k : Fin 17) : (s.setStack e k).v = s.v := rfl
@[simp] theorem State.setStack_i (e : Vector Word 16) (k : Fin 17) : (s.setStack e k).i = s.i := rfl
@[simp] theorem State.setStack_pc (e : Vector Word 16) (k : Fin 17) : (s.setStack e k).pc = s.pc := rfl
@[simp] theorem State.setStack_stack (e : Vector Word 16) (k : Fin 17) : (s.setStack e k).stack = e := rfl
@[simp] theorem State.setStack_sp (e : Vector Word 16) (k : Fin 17) : (s.setStack e k).sp = k := rfl
@[simp] theorem State.setStack_dt (e : Vector Word 16) (k : Fin 17) : (s.setStack e k).dt = s.dt := rfl
@[simp] theorem State.setStack_st (e : Vector Word 16) (k : Fin 17) : (s.setStack e k).st = s.st := rfl
@[simp] theorem State.setStack_key (e : Vector Word 16) (k : Fin 17) : (s.setStack e k).key = s.key := rfl
@[simp] theorem State.setStack_mem (e : Vector Word 16) (k : Fin 17) : (s.setStack e k).mem = s.mem := rfl
@[simp] theorem State.setStack_disp (e : Vector Word 16) (k : Fin 17) : (s.setStack e k).disp = s.disp := rfl
@[simp] theorem State.setStack_paused (e : Vector Word 16) (k : Fin 17) : (s.setStack e k).paused = s.paused := rfl
@[simp] theorem State.setStack_waiting (e : Vector Word 16) (k : Fin 17) : (s.setStack e k).waiting = s.waiting := rfl
@[simp] theorem State.setStack_fault (e : Vector Word 16) (k : Fin 17) : (s.setStack e k).fault = s.fault := rfl
@[simp] theorem State.setStack_events (e : Vector Word 16) (k : Fin 17) : (s.setStack e k).events = s.events := rfl
@[simp] theorem State.setStack_cfg (e : Vector Word 16) (k : Fin 17) : (s.setStack e k).cfg = s.cfg := rfl
@[simp] theorem State.setStack_loadStatus (e : Vector Word 16) (k : Fin 17) : (s.setStack e k).loadStatus = s.loadStatus := rfl
@[simp] theorem State.setStack_rndPos (e : Vector Word 16) (k : Fin 17) : (s.setStack e k).rndPos = s.rndPos := rfl
@[simp] theorem State.setStack_burst (e : Vector Word 16) (k : Fin 17) : (s.setStack e k).burst = s.burst := rfl
@[simp] theorem State.setStack_inbox (e : Vector Word 16) (k : Fin 17) : (s.setStack e k).inbox = s.inbox := rfl
@[simp] theorem State.setStack_reg (e : Vector Word 16) (k : Fin 17) (y : Nibble) : (s.setStack e k).reg y = s.reg y := rfl
@[simp] theorem State.setStack_keyDown (e : Vector Word 16) (k : Fin 17) (k' : Nibble) : (s.setStack e k).keyDown k' = s.keyDown k' := rfl
@[simp] theorem State.setStack_readByte (e : Vector Word 16) (k : Fin 17) (a' : Nat) : (s.setStack e k).readByte a' = s.readByte a' := rfl
@[simp] theorem State.setStack_readBytes (e : Vector Word 16) (k : Fin 17) (a' n' : Nat) : (s.setStack e k).readBytes a' n' = s.readBytes a' n' := rfl
@[simp] theorem State.setStack_fetch (e : Vector Word 16) (k : Fin 17) : (s.setStack e k).fetch = s.fetch := rfl
@[simp] theorem State.setStack_faulted (e : Vector Word 16) (k : Fin 17) : (s.setStack e k).faulted = s.faulted := rfl
@[simp] theorem State.setStack_base (e : Vector Word 16) (k : Fin 17) : (s.setStack e k).base = s.base := rfl
@[simp] theorem State.setStack_instrAddr (e : Vector Word 16) (k : Fin 17) : (s.setStack e k).instrAddr = s.instrAddr := rfl
@[simp] theorem State.setStack_regRun (e : Vector Word 16) (k : Fin 17) (y : Nibble) : (s.setStack e k).regRun y = s.regRun y := rfl

/-! ### setDt -/

@[simp] theorem State.setDt_v (b : Byte) : (s.setDt b).v = s.v := rfl
@[simp] theorem State.setDt_i (b : Byte) : (s.setDt b).i = s.i := rfl
@[simp] theorem State.setDt_pc (b : Byte) : (s.setDt b).pc = s.pc := rfl
@[simp] theorem State.setDt_stack (b : Byte) : (s.setDt b).stack = s.stack := rfl
@[simp] theorem State.setDt_sp (b : Byte) : (s.setDt b).sp = s.sp := rfl
@[simp] theorem State.setDt_dt (b : Byte) : (s.setDt b).dt = b := rfl
@[simp] theorem State.setDt_st (b : Byte) : (s.setDt b).st = s.st := rfl
@[simp] theorem State.setDt_key (b : Byte) : (s.setDt b).key = s.key := rfl
@[simp] theorem State.setDt_mem (b : Byte) : (s.setDt b).mem = s.mem := rfl
@[simp] theorem State.setDt_disp (b : Byte) : (s.setDt b).disp = s.disp := rfl
@[simp] theorem State.setDt_paused (b : Byte) : (s.setDt b).paused = s.paused := rfl
@[simp] theorem State.setDt_waiting (b : Byte) : (s.setDt b).waiting = s.waiting := rfl
@[simp] theorem State.setDt_fault (b : Byte) : (s.setDt b).fault = s.fault := rfl
@[simp] theorem State.setDt_events (b : Byte) : (s.setDt b).events = s.events := rfl
@[simp] theorem State.setDt_cfg (b : Byte) : (s.setDt b).cfg = s.cfg := rfl
@[simp] theorem State.setDt_loadStatus (b : Byte) : (s.setDt b).loadStatus = s.loadStatus := rfl
@[simp] theorem State.setDt_rndPos (b : Byte) : (s.setDt b).rndPos = s.rndPos := rfl
@[simp] theorem State.setDt_burst (b : Byte) : (s.setDt b).burst = s.burst := rfl
@[simp] theorem State.setDt_inbox (b : Byte) : (s.setDt b).inbox = s.inbox := rfl
@[simp] theorem State.setDt_reg (b : Byte) (y : Nibble) : (s.setDt b).reg y = s.reg y := rfl
@[simp] theorem State.setDt_keyDown (b : Byte) (k' : Nibble) : (s.setDt b).keyDown k' = s.keyDown k' := rfl
@[simp] theorem State.setDt_readByte (b : Byte) (a' : Nat) : (s.setDt b).readByte a' = s.readByte a' := rfl
@[simp] theorem State.setDt_readBytes (b : Byte) (a' n' : Nat) : (s.setDt b).readBytes a' n' = s.readBytes a' n' := rfl
@[simp] theorem State.setDt_fetch (b : Byte) : (s.setDt b).fetch = s.fetch := rfl
@[simp] theorem State.setDt_faulted (b : Byte) : (s.setDt b).faulted = s.faulted := rfl
@[simp] theorem State.setDt_base (b : Byte) : (s.setDt b).base = s.base := rfl
@[simp] theorem State.setDt_instrAddr (b : Byte) : (s.setDt b).instrAddr = s.instrAddr := rfl
@[simp] theorem State.setDt_regRun (b : Byte) (y : Nibble) : (s.setDt b).regRun y = s.regRun y := rfl

/-! ### setSt -/

@[simp] theorem State.setSt_v (b : Byte) : (s.setSt b).v = s.v := rfl
@[simp] theorem State.setSt_i (b : Byte) : (s.setSt b).i = s.i := rfl
@[simp] theorem State.setSt_pc (b : Byte) : (s.setSt b).pc = s.pc := rfl
@[simp] theorem State.setSt_stack (b : Byte) : (s.setSt b).stack = s.stack := rfl
@[simp] theorem State.setSt_sp (b : Byte) : (s.setSt b).sp = s.sp := rfl
@[simp] theorem State.setSt_dt (b : Byte) : (s.setSt b).dt = s.dt := rfl
@[simp] theorem State.setSt_st (b : Byte) : (s.setSt b).st = b := rfl
@[simp] theorem State.setSt_key (b : Byte) : (s.setSt b).key = s.key := rfl
@[simp] theorem State.setSt_mem (b : Byte) : (s.setSt b).mem = s.mem := rfl
@[simp] theorem State.setSt_disp (b : Byte) : (s.setSt b).disp = s.disp := rfl
@[simp] theorem State.setSt_paused (b : Byte) : (s.setSt b).paused = s.paused := rfl
@[simp] theorem State.setSt_waiting (b : Byte) : (s.setSt b).waiting = s.waiting := rfl
@[simp] theorem State.setSt_fault (b : Byte) : (s.setSt b).fault = s.fault := rfl
@[simp] theorem State.setSt_events (b : Byte) : (s.setSt b).events = s.events := rfl
@[simp] theorem State.setSt_cfg (b : Byte) : (s.setSt b).cfg = s.cfg := rfl
@[simp] theorem State.setSt_loadStatus (b : Byte) : (s.setSt b).loadStatus = s.loadStatus := rfl
@[simp] theorem State.setSt_rndPos (b : Byte) : (s.setSt b).rndPos = s.rndPos := rfl
@[simp] theorem State.setSt_burst (b : Byte) : (s.setSt b).burst = s.burst := rfl
@[simp] theorem State.setSt_inbox (b : Byte) : (s.setSt b).inbox = s.inbox := rfl
@[simp] theorem State.setSt_reg (b : Byte) (y : Nibble) : (s.setSt b).reg y = s.reg y := rfl
@[simp] theorem State.setSt_keyDown (b : Byte) (k' : Nibble) : (s.setSt b).keyDown k' = s.keyDown k' := rfl
@[simp] theorem State.setSt_readByte (b : Byte) (a' : Nat) : (s.setSt b).readByte a' = s.readByte a' := rfl
@[simp] theorem State.setSt_readBytes (b : Byte) (a' n' : Nat) : (s.setSt b).readBytes a' n' = s.readBytes a' n' := rfl
@[simp] theorem State.setSt_fetch (b : Byte) : (s.setSt b).fetch = s.fetch := rfl
@[simp] theorem State.setSt_faulted (b : Byte) : (s.setSt b).faulted = s.faulted := rfl
@[simp] theorem State.setSt_base (b : Byte) : (s.setSt b).base = s.base := rfl
@[simp] theorem State.setSt_instrAddr (b : Byte) : (s.setSt b).instrAddr = s.instrAddr := rfl
@[simp] theorem State.setSt_regRun (b : Byte) (y : Nibble) : (s.setSt b).regRun y = s.regRun y := rfl

/-! ### setKey -/

@[simp] theorem State.setKey_v (k : Nibble) (p : Bool) : (s.setKey k p).v = s.v := rfl
@[simp] theorem State.setKey_i (k : Nibble) (p : Bool) : (s.setKey k p).i = s.i := rfl
@[simp] theorem State.setKey_pc (k : Nibble) (p : Bool) : (s.setKey k p).pc = s.pc := rfl
@[simp] theorem State.setKey_stack (k : Nibble) (p : Bool) : (s.setKey k p).stack = s.stack := rfl
@[simp] theorem State.setKey_sp (k : Nibble) (p : Bool) : (s.setKey k p).sp = s.sp := rfl
@[simp] theorem State.setKey_dt (k : Nibble) (p : Bool) : (s.setKey k p).dt = s.dt := rfl
@[simp] theorem State.setKey_st (k : Nibble) (p : Bool) : (s.setKey k p).st = s.st := rfl
@[simp] theorem State.setKey_key (k : Nibble) (p : Bool) : (s.setKey k p).key = s.key.set k.toNat p k.isLt := rfl
@[simp] theorem State.setKey_mem (k : Nibble) (p : Bool) : (s.setKey k p).mem = s.mem := rfl
@[simp] theorem State.setKey_disp (k : Nibble) (p : Bool) : (s.setKey k p).disp = s.disp := rfl
@[simp] theorem State.setKey_paused (k : Nibble) (p : Bool) : (s.setKey k p).paused = s.paused := rfl
@[simp] theorem State.setKey_waiting (k : Nibble) (p : Bool) : (s.setKey k p).waiting = s.waiting := rfl
@[simp] theorem State.setKey_fault (k : Nibble) (p : Bool) : (s.setKey k p).fault = s.fault := rfl
@[simp] theorem State.setKey_events (k : Nibble) (p : Bool) : (s.setKey k p).events = s.events := rfl
@[simp] theorem State.setKey_cfg (k : Nibble) (p : Bool) : (s.setKey k p).cfg = s.cfg := rfl
@[simp] theorem State.setKey_loadStatus (k : Nibble) (p : Bool) : (s.setKey k p).loadStatus = s.loadStatus := rfl
@[simp] theorem State.setKey_rndPos (k : Nibble) (p : Bool) : (s.setKey k p).rndPos = s.rndPos := rfl
@[simp] theorem State.setKey_burst (k : Nibble) (p : Bool) : (s.setKey k p).burst = s.burst := rfl
@[simp] theorem State.setKey_inbox (k : Nibble) (p : Bool) : (s.setKey k p).inbox = s.inbox := rfl
@[simp] theorem State.setKey_reg (k : Nibble) (p : Bool) (y : Nibble) : (s.setKey k p).reg y = s.reg y := rfl
@[simp] theorem State.setKey_readByte (k : Nibble) (p : Bool) (a' : Nat) : (s.setKey k p).readByte a' = s.readByte a' := rfl
@[simp] theorem State.setKey_readBytes (k : Nibble) (p : Bool) (a' n' : Nat) : (s.setKey k p).readBytes a' n' = s.readBytes a' n' := rfl
@[simp] theorem State.setKey_fetch (k : Nibble) (p : Bool) : (s.setKey k p).fetch = s.fetch := rfl
@[simp] theorem State.setKey_faulted (k : Nibble) (p : Bool) : (s.setKey k p).faulted = s.faulted := rfl
@[simp] theorem State.setKey_base (k : Nibble) (p : Bool) : (s.setKey k p).base = s.base := rfl
@[simp] theorem State.setKey_instrAddr (k : Nibble) (p : Bool) : (s.setKey k p).instrAddr = s.instrAddr := rfl
@[simp] theorem State.setKey_regRun (k : Nibble) (p : Bool) (y : Nibble) : (s.setKey k p).regRun y = s.regRun y := rfl

/-! ### setMem -/

@[simp] theorem State.setMem_v (m : Memory) : (s.setMem m).v = s.v := rfl
@[simp] theorem State.setMem_i (m : Memory) : (s.setMem m).i = s.i := rfl
@[simp] theorem State.setMem_pc (m : Memory) : (s.setMem m).pc = s.pc := rfl
@[simp] theorem State.setMem_stack (m : Memory) : (s.setMem m).stack = s.stack := rfl
@[simp] theorem State.setMem_sp (m : Memory) : (s.setMem m).sp = s.sp := rfl
@[simp] theorem State.setMem_dt (m : Memory) : (s.setMem m).dt = s.dt := rfl
@[simp] theorem State.setMem_st (m : Memory) : (s.setMem m).st = s.st := rfl
@[simp] theorem State.setMem_key (m : Memory) : (s.setMem m).key = s.key := rfl
@[simp] theorem State.setMem_mem (m : Memory) : (s.setMem m).mem = m := rfl
@[simp] theorem State.setMem_disp (m : Memory) : (s.setMem m).disp = s.disp := rfl
@[simp] theorem State.setMem_paused (m : Memory) : (s.setMem m).paused = s.paused := rfl
@[simp] theorem State.setMem_waiting (m : Memory) : (s.setMem m).waiting = s.waiting := rfl
@[simp] theorem State.setMem_fault (m : Memory) : (s.setMem m).fault = s.fault := rfl
@[simp] theorem State.setMem_events (m : Memory) : (s.setMem m).events = s.events := rfl
@[simp] theorem State.setMem_cfg (m : Memory) : (s.setMem m).cfg = s.cfg := rfl
@[simp] theorem State.setMem_loadStatus (m : Memory) : (s.setMem m).loadStatus = s.loadStatus := rfl
@[simp] theorem State.setMem_rndPos (m : Memory) : (s.setMem m).rndPos = s.rndPos := rfl
@[simp] theorem State.setMem_burst (m : Memory) : (s.setMem m).burst = s.burst := rfl
@[simp] theorem State.setMem_inbox (m : Memory) : (s.setMem m).inbox = s.inbox := rfl
@[simp] theorem State.setMem_reg (m : Memory) (y : Nibble) : (s.setMem m).reg y = s.reg y := rfl
@[simp] theorem State.setMem_keyDown (m : Memory) (k' : Nibble) : (s.setMem m).keyDown k' = s.keyDown k' := rfl
@[simp] theorem State.setMem_faulted (m : Memory) : (s.setMem m).faulted = s.faulted := rfl
@[simp] theorem State.setMem_base (m : Memory) : (s.setMem m).base = s.base := rfl
@[simp] theorem State.setMem_instrAddr (m : Memory) : (s.setMem m).instrAddr = s.instrAddr := rfl
@[simp] theorem State.setMem_regRun (m : Memory) (y : Nibble) : (s.setMem m).regRun y = s.regRun y := rfl

/-! ### storeBytes -/

@[simp] theorem State.storeBytes_v (a : Nat) (bs : List Byte) : (s.storeBytes a bs).v = s.v := rfl
@[simp] theorem State.storeBytes_i (a : Nat) (bs : List Byte) : (s.storeBytes a bs).i = s.i := rfl
@[simp] theorem State.storeBytes_pc (a : Nat) (bs : List Byte) : (s.storeBytes a bs).pc = s.pc := rfl
@[simp] theorem State.storeBytes_stack (a : Nat) (bs : List Byte) : (s.storeBytes a bs).stack = s.stack := rfl
@[simp] theorem State.storeBytes_sp (a : Nat) (bs : List Byte) : (s.storeBytes a bs).sp = s.sp := rfl
@[simp] theorem State.storeBytes_dt (a : Nat) (bs : List Byte) : (s.storeBytes a bs).dt = s.dt := rfl
@[simp] theorem State.storeBytes_st (a : Nat) (bs : List Byte) : (s.storeBytes a bs).st = s.st := rfl
@[simp] theorem State.storeBytes_key (a : Nat) (bs : List Byte) : (s.storeBytes a bs).key = s.key := rfl
@[simp] theorem State.storeBytes_mem (a : Nat) (bs : List Byte) : (s.storeBytes a bs).mem = Memory.writeRun s.cfg.resetByte s.mem a bs := rfl
@[simp] theorem State.storeBytes_disp (a : Nat) (bs : List Byte) : (s.storeBytes a bs).disp = s.disp := rfl
@[simp] theorem State.storeBytes_paused (a : Nat) (bs : List Byte) : (s.storeBytes a bs).paused = s.paused := rfl
@[simp] theorem State.storeBytes_waiting (a : Nat) (bs : List Byte) : (s.storeBytes a bs).waiting = s.waiting := rfl
@[simp] theorem State.storeBytes_fault (a : Nat) (bs : List Byte) : (s.storeBytes a bs).fault = s.fault := rfl
@[simp] theorem State.storeBytes_events (a : Nat) (bs : List Byte) : (s.storeBytes a bs).events = s.events := rfl
@[simp] theorem State.storeBytes_cfg (a : Nat) (bs : List Byte) : (s.storeBytes a bs).cfg = s.cfg := rfl
@[simp] theorem State.storeBytes_loadStatus (a : Nat) (bs : List Byte) : (s.storeBytes a bs).loadStatus = s.loadStatus := rfl
@[simp] theorem State.storeBytes_rndPos (a : Nat) (bs : List Byte) : (s.storeBytes a bs).rndPos = s.rndPos := rfl
@[simp] theorem State.storeBytes_burst (a : Nat) (bs : List Byte) : (s.storeBytes a bs).burst = s.burst := rfl
@[simp] theorem State.storeBytes_inbox (a : Nat) (bs : List Byte) : (s.storeBytes a bs).inbox = s.inbox := rfl
@[simp] theorem State.storeBytes_reg (a : Nat) (bs : List Byte) (y : Nibble) : (s.storeBytes a bs).reg y = s.reg y := rfl
@[simp] theorem State.storeBytes_keyDown (a : Nat) (bs : List Byte) (k' : Nibble) : (s.storeBytes a bs).keyDown k' = s.keyDown k' := rfl
@[simp] theorem State.storeBytes_faulted (a : Nat) (bs : List Byte) : (s.storeBytes a bs).faulted = s.faulted := rfl
@[simp] theorem State.storeBytes_base (a : Nat) (bs : List Byte) : (s.storeBytes a bs).base = s.base := rfl
@[simp] theorem State.storeBytes_instrAddr (a : Nat) (bs : List Byte) : (s.storeBytes a bs).instrAddr = s.instrAddr := rfl
@[simp] theorem State.storeBytes_regRun (a : Nat) (bs : List Byte) (y : Nibble) : (s.storeBytes a bs).regRun y = s.regRun y := rfl

/-! ### setDisp -/

@[simp] theorem State.setDisp_v (d : Display) : (s.setDisp d).v = s.v := rfl
@[simp] theorem State.setDisp_i (d : Display) : (s.setDisp d).i = s.i := rfl
@[simp] theorem State.setDisp_pc (d : Display) : (s.setDisp d).pc = s.pc := rfl
@[simp] theorem State.setDisp_stack (d : Display) : (s.setDisp d).stack = s.stack := rfl
@[simp] theorem State.setDisp_sp (d : Display) : (s.setDisp d).sp = s.sp := rfl
@[simp] theorem State.setDisp_dt (d : Display) : (s.setDisp d).dt = s.dt := rfl
@[simp] theorem State.setDisp_st (d : Display) : (s.setDisp d).st = s.st := rfl
@[simp] theorem State.setDisp_key (d : Display) : (s.setDisp d).key = s.key := rfl
@[simp] theorem State.setDisp_mem (d : Display) : (s.setDisp d).mem = s.mem := rfl
@[simp] theorem State.setDisp_disp (d : Display) : (s.setDisp d).disp = d := rfl
@[simp] theorem State.setDisp_paused (d : Display) : (s.setDisp d).paused = s.paused := rfl
@[simp] theorem State.setDisp_waiting (d : Display) : (s.setDisp d).waiting = s.waiting := rfl
@[simp] theorem State.setDisp_fault (d : Display) : (s.setDisp d).fault = s.fault := rfl
@[simp] theorem State.setDisp_events (d : Display) : (s.setDisp d).events = s.events := rfl
@[simp] theorem State.setDisp_cfg (d : Display) : (s.setDisp d).cfg = s.cfg := rfl
@[simp] theorem State.setDisp_loadStatus (d : Display) : (s.setDisp d).loadStatus = s.loadStatus := rfl
@[simp] theorem State.setDisp_rndPos (d : Display) : (s.setDisp d).rndPos = s.rndPos := rfl
@[simp] theorem State.setDisp_burst (d : Display) : (s.setDisp d).burst = s.burst := rfl
@[simp] theorem State.setDisp_inbox (d : Display) : (s.setDisp d).inbox = s.inbox := rfl
@[simp] theorem State.setDisp_reg (d : Display) (y : Nibble) : (s.setDisp d).reg y = s.reg y := rfl
@[simp] theorem State.setDisp_keyDown (d : Display) (k' : Nibble) : (s.setDisp d).keyDown k' = s.keyDown k' := rfl
@[simp] theorem State.setDisp_readByte (d : Display) (a' : Nat) : (s.setDisp d).readByte a' = s.readByte a' := rfl
@[simp] theorem State.setDisp_readBytes (d : Display) (a' n' : Nat) : (s.setDisp d).readBytes a' n' = s.readBytes a' n' := rfl
@[simp] theorem State.setDisp_fetch (d : Display) : (s.setDisp d).fetch = s.fetch := rfl
@[simp] theorem State.setDisp_faulted (d : Display) : (s.setDisp d).faulted = s.faulted := rfl
@[simp] theorem State.setDisp_base (d : Display) : (s.setDisp d).base = s.base := rfl
@[simp] theorem State.setDisp_instrAddr (d : Display) : (s.setDisp d).instrAddr = s.instrAddr := rfl
@[simp] theorem State.setDisp_regRun (d : Display) (y : Nibble) : (s.setDisp d).regRun y = s.regRun y := rfl

/-! ### setWait -/

@[simp] theorem State.setWait_v (b : Bool) : (s.setWait b).v = s.v := rfl
@[simp] theorem State.setWait_i (b : Bool) : (s.setWait b).i = s.i := rfl
@[simp] theorem State.setWait_pc (b : Bool) : (s.setWait b).pc = s.pc := rfl
@[simp] theorem State.setWait_stack (b : Bool) : (s.setWait b).stack = s.stack := rfl
@[simp] theorem State.setWait_sp (b : Bool) : (s.setWait b).sp = s.sp := rfl
@[simp] theorem State.setWait_dt (b : Bool) : (s.setWait b).dt = s.dt := rfl
@[simp] theorem State.setWait_st (b : Bool) : (s.setWait b).st = s.st := rfl
@[simp] theorem State.setWait_key (b : Bool) : (s.setWait b).key = s.key := rfl
@[simp] theorem State.setWait_mem (b : Bool) : (s.setWait b).mem = s.mem := rfl
@[simp] theorem State.setWait_disp (b : Bool) : (s.setWait b).disp = s.disp := rfl
@[simp] theorem State.setWait_paused (b : Bool) : (s.setWait b).paused = b := rfl
@[simp] theorem State.setWait_waiting (b : Bool) : (s.setWait b).waiting = b := rfl
@[simp] theorem State.setWait_fault (b : Bool) : (s.setWait b).fault = s.fault := rfl
@[simp] theorem State.setWait_events (b : Bool) : (s.setWait b).events = s.events := rfl
@[simp] theorem State.setWait_cfg (b : Bool) : (s.setWait b).cfg = s.cfg := rfl
@[simp] theorem State.setWait_loadStatus (b : Bool) : (s.setWait b).loadStatus = s.loadStatus := rfl
@[simp] theorem State.setWait_rndPos (b : Bool) : (s.setWait b).rndPos = s.rndPos := rfl
@[simp] theorem State.setWait_burst (b : Bool) : (s.setWait b).burst = s.burst := rfl
@[simp] theorem State.setWait_inbox (b : Bool) : (s.setWait b).inbox = s.inbox := rfl
@[simp] theorem State.setWait_reg (b : Bool) (y : Nibble) : (s.setWait b).reg y = s.reg y := rfl
@[simp] theorem State.setWait_keyDown (b : Bool) (k' : Nibble) : (s.setWait b).keyDown k' = s.keyDown k' := rfl
@[simp] theorem State.setWait_readByte (b : Bool) (a' : Nat) : (s.setWait b).readByte a' = s.readByte a' := rfl
@[simp] theorem State.setWait_readBytes (b : Bool) (a' n' : Nat) : (s.setWait b).readBytes a' n' = s.readBytes a' n' := rfl
@[simp] theorem State.setWait_fetch (b : Bool) : (s.setWait b).fetch = s.fetch := rfl
@[simp] theorem State.setWait_faulted (b : Bool) : (s.setWait b).faulted = s.faulted := rfl
@[simp] theorem State.setWait_base (b : Bool) : (s.setWait b).base = s.base := rfl
@[simp] theorem State.setWait_instrAddr (b : Bool) : (s.setWait b).instrAddr = s.instrAddr := rfl
@[simp] theorem State.setWait_regRun (b : Bool) (y : Nibble) : (s.setWait b).regRun y = s.regRun y := rfl

/-! ### setFault -/

@[simp] theorem State.setFault_v (f : FaultLatch) : (s.setFault f).v = s.v := rfl
@[simp] theorem State.setFault_i (f : FaultLatch) : (s.setFault f).i = s.i := rfl
@[simp] theorem State.setFault_pc (f : FaultLatch) : (s.setFault f).pc = s.pc := rfl
@[simp] theorem State.setFault_stack (f : FaultLatch) : (s.setFault f).stack = s.stack := rfl
@[simp] theorem State.setFault_sp (f : FaultLatch) : (s.setFault f).sp = s.sp := rfl
@[simp] theorem State.setFault_dt (f : FaultLatch) : (s.setFault f).dt = s.dt := rfl
@[simp] theorem State.setFault_st (f : FaultLatch) : (s.setFault f).st = s.st := rfl
@[simp] theorem State.setFault_key (f : FaultLatch) : (s.setFault f).key = s.key := rfl
@[simp] theorem State.setFault_mem (f : FaultLatch) : (s.setFault f).mem = s.mem := rfl
@[simp] theorem State.setFault_disp (f : FaultLatch) : (s.setFault f).disp = s.disp := rfl
@[simp] theorem State.setFault_paused (f : FaultLatch) : (s.setFault f).paused = s.paused := rfl
@[simp] theorem State.setFault_waiting (f : FaultLatch) : (s.setFault f).waiting = s.waiting := rfl
@[simp] theorem State.setFault_fault (f : FaultLatch) : (s.setFault f).fault = f := rfl
@[simp] theorem State.setFault_events (f : FaultLatch) : (s.setFault f).events = s.events := rfl
@[simp] theorem State.setFault_cfg (f : FaultLatch) : (s.setFault f).cfg = s.cfg := rfl
@[simp] theorem State.setFault_loadStatus (f : FaultLatch) : (s.setFault f).loadStatus = s.loadStatus := rfl
@[simp] theorem State.setFault_rndPos (f : FaultLatch) : (s.setFault f).rndPos = s.rndPos := rfl
@[simp] theorem State.setFault_burst (f : FaultLatch) : (s.setFault f).burst = s.burst := rfl
@[simp] theorem State.setFault_inbox (f : FaultLatch) : (s.setFault f).inbox = s.inbox := rfl
@[simp] theorem State.setFault_reg (f : FaultLatch) (y : Nibble) : (s.setFault f).reg y = s.reg y := rfl
@[simp] theorem State.setFault_keyDown (f : FaultLatch) (k' : Nibble) : (s.setFault f).keyDown k' = s.keyDown k' := rfl
@[simp] theorem State.setFault_readByte (f : FaultLatch) (a' : Nat) : (s.setFault f).readByte a' = s.readByte a' := rfl
@[simp] theorem State.setFault_readBytes (f : FaultLatch) (a' n' : Nat) : (s.setFault f).readBytes a' n' = s.readBytes a' n' := rfl
@[simp] theorem State.setFault_fetch (f : FaultLatch) : (s.setFault f).fetch = s.fetch := rfl
@[simp] theorem State.setFault_base (f : FaultLatch) : (s.setFault f).base = s.base := rfl
@[simp] theorem State.setFault_instrAddr (f : FaultLatch) : (s.setFault f).instrAddr = s.instrAddr := rfl
@[simp] theorem State.setFault_regRun (f : FaultLatch) (y : Nibble) : (s.setFault f).regRun y = s.regRun y := rfl

/-! ### emit -/

@[simp] theorem State.emit_v (e : Event) : (s.emit e).v = s.v := rfl
@[simp] theorem State.emit_i (e : Event) : (s.emit e).i = s.i := rfl
@[simp] theorem State.emit_pc (e : Event) : (s.emit e).pc = s.pc := rfl
@[simp] theorem State.emit_stack (e : Event) : (s.emit e).stack = s.stack := rfl
@[simp] theorem State.emit_sp (e : Event) : (s.emit e).sp = s.sp := rfl
@[simp] theorem State.emit_dt (e : Event) : (s.emit e).dt = s.dt := rfl
@[simp] theorem State.emit_st (e : Event) : (s.emit e).st = s.st := rfl
@[simp] theorem State.emit_key (e : Event) : (s.emit e).key = s.key := rfl
@[simp] theorem State.emit_mem (e : Event) : (s.emit e).mem = s.mem := rfl
@[simp] theorem State.emit_disp (e : Event) : (s.emit e).disp = s.disp := rfl
@[simp] theorem State.emit_paused (e : Event) : (s.emit e).paused = s.paused := rfl
@[simp] theorem State.emit_waiting (e : Event) : (s.emit e).waiting = s.waiting := rfl
@[simp] theorem State.emit_fault (e : Event) : (s.emit e).fault = s.fault := rfl
@[simp] theorem State.emit_events (e : Event) : (s.emit e).events = s.events ++ [e] := rfl
@[simp] theorem State.emit_cfg (e : Event) : (s.emit e).cfg = s.cfg := rfl
@[simp] theorem State.emit_loadStatus (e : Event) : (s.emit e).loadStatus = s.loadStatus := rfl
@[simp] theorem State.emit_rndPos (e : Event) : (s.emit e).rndPos = s.rndPos := rfl
@[simp] theorem State.emit_burst (e : Event) : (s.emit e).burst = s.burst := rfl
@[simp] theorem State.emit_inbox (e : Event) : (s.emit e).inbox = s.inbox := rfl
@[simp] theorem State.emit_reg (e : Event) (y : Nibble) : (s.emit e).reg y = s.reg y := rfl
@[simp] theorem State.emit_keyDown (e : Event) (k' : Nibble) : (s.emit e).keyDown k' = s.keyDown k' := rfl
@[simp] theorem State.emit_readByte (e : Event) (a' : Nat) : (s.emit e).readByte a' = s.readByte a' := rfl
@[simp] theorem State.emit_readBytes (e : Event) (a' n' : Nat) : (s.emit e).readBytes a' n' = s.readBytes a' n' := rfl
@[simp] theorem State.emit_fetch (e : Event) : (s.emit e).fetch = s.fetch := rfl
@[simp] theorem State.emit_faulted (e : Event) : (s.emit e).faulted = s.faulted := rfl
@[simp] theorem State.emit_base (e : Event) : (s.emit e).base = s.base := rfl
@[simp] theorem State.emit_instrAddr (e : Event) : (s.emit e).instrAddr = s.instrAddr := rfl
@[simp] theorem State.emit_regRun (e : Event) (y : Nibble) : (s.emit e).regRun y = s.regRun y := rfl

/-! ### setLoadStatus -/

@[simp] theorem State.setLoadStatus_v (r : LoadStatus) : (s.setLoadStatus r).v = s.v := rfl
@[simp] theorem State.setLoadStatus_i (r : LoadStatus) : (s.setLoadStatus r).i = s.i := rfl
@[simp] theorem State.setLoadStatus_pc (r : LoadStatus) : (s.setLoadStatus r).pc = s.pc := rfl
@[simp] theorem State.setLoadStatus_stack (r : LoadStatus) : (s.setLoadStatus r).stack = s.stack := rfl
@[simp] theorem State.setLoadStatus_sp (r : LoadStatus) : (s.setLoadStatus r).sp = s.sp := rfl
@[simp] theorem State.setLoadStatus_dt (r : LoadStatus) : (s.setLoadStatus r).dt = s.dt := rfl
@[simp] theorem State.setLoadStatus_st (r : LoadStatus) : (s.setLoadStatus r).st = s.st := rfl
@[simp] theorem State.setLoadStatus_key (r : LoadStatus) : (s.setLoadStatus r).key = s.key := rfl
@[simp] theorem State.setLoadStatus_mem (r : LoadStatus) : (s.setLoadStatus r).mem = s.mem := rfl
@[simp] theorem State.setLoadStatus_disp (r : LoadStatus) : (s.setLoadStatus r).disp = s.disp := rfl
@[simp] theorem State.setLoadStatus_paused (r : LoadStatus) : (s.setLoadStatus r).paused = s.paused := rfl
@[simp] theorem State.setLoadStatus_waiting (r : LoadStatus) : (s.setLoadStatus r).waiting = s.waiting := rfl
@[simp] theorem State.setLoadStatus_fault (r : LoadStatus) : (s.setLoadStatus r).fault = s.fault := rfl
@[simp] theorem State.setLoadStatus_events (r : LoadStatus) : (s.setLoadStatus r).events = s.events := rfl
@[simp] theorem State.setLoadStatus_cfg (r : LoadStatus) : (s.setLoadStatus r).cfg = s.cfg := rfl
@[simp] theorem State.setLoadStatus_loadStatus (r : LoadStatus) : (s.setLoadStatus r).loadStatus = some r := rfl
@[simp] theorem State.setLoadStatus_rndPos (r : LoadStatus) : (s.setLoadStatus r).rndPos = s.rndPos := rfl
@[simp] theorem State.setLoadStatus_burst (r : LoadStatus) : (s.setLoadStatus r).burst = s.burst := rfl
@[simp] theorem State.setLoadStatus_inbox (r : LoadStatus) : (s.setLoadStatus r).inbox = s.inbox := rfl
@[simp] theorem State.setLoadStatus_reg (r : LoadStatus) (y : Nibble) : (s.setLoadStatus r).reg y = s.reg y := rfl
@[simp] theorem State.setLoadStatus_keyDown (r : LoadStatus) (k' : Nibble) : (s.setLoadStatus r).keyDown k' = s.keyDown k' := rfl
@[simp] theorem State.setLoadStatus_readByte (r : LoadStatus) (a' : Nat) : (s.setLoadStatus r).readByte a' = s.readByte a' := rfl
@[simp] theorem State.setLoadStatus_readBytes (r : LoadStatus) (a' n' : Nat) : (s.setLoadStatus r).readBytes a' n' = s.readBytes a' n' := rfl
@[simp] theorem State.setLoadStatus_fetch (r : LoadStatus) : (s.setLoadStatus r).fetch = s.fetch := rfl
@[simp] theorem State.setLoadStatus_faulted (r : LoadStatus) : (s.setLoadStatus r).faulted = s.faulted := rfl
@[simp] theorem State.setLoadStatus_base (r : LoadStatus) : (s.setLoadStatus r).base = s.base := rfl
@[simp] theorem State.setLoadStatus_instrAddr (r : LoadStatus) : (s.setLoadStatus r).instrAddr = s.instrAddr := rfl
@[simp] theorem State.setLoadStatus_regRun (r : LoadStatus) (y : Nibble) : (s.setLoadStatus r).regRun y = s.regRun y := rfl

/-! ### nextRnd -/

@[simp] theorem State.nextRnd_v : (s.nextRnd).v = s.v := rfl
@[simp] theorem State.nextRnd_i : (s.nextRnd).i = s.i := rfl
@[simp] theorem State.nextRnd_pc : (s.nextRnd).pc = s.pc := rfl
@[simp] theorem State.nextRnd_stack : (s.nextRnd).stack = s.stack := rfl
@[simp] theorem State.nextRnd_sp : (s.nextRnd).sp = s.sp := rfl
@[simp] theorem State.nextRnd_dt : (s.nextRnd).dt = s.dt := rfl
@[simp] theorem State.nextRnd_st : (s.nextRnd).st = s.st := rfl
@[simp] theorem State.nextRnd_key : (s.nextRnd).key = s.key := rfl
@[simp] theorem State.nextRnd_mem : (s.nextRnd).mem = s.mem := rfl
@[simp] theorem State.nextRnd_disp : (s.nextRnd).disp = s.disp := rfl
@[simp] theorem State.nextRnd_paused : (s.nextRnd).paused = s.paused := rfl
@[simp] theorem State.nextRnd_waiting : (s.nextRnd).waiting = s.waiting := rfl
@[simp] theorem State.nextRnd_fault : (s.nextRnd).fault = s.fault := rfl
@[simp] theorem State.nextRnd_events : (s.nextRnd).events = s.events := rfl
@[simp] theorem State.nextRnd_cfg : (s.nextRnd).cfg = s.cfg := rfl
@[simp] theorem State.nextRnd_loadStatus : (s.nextRnd).loadStatus = s.loadStatus := rfl
@[simp] theorem State.nextRnd_rndPos : (s.nextRnd).rndPos = s.rndPos + 1 := rfl
@[simp] theorem State.nextRnd_burst : (s.nextRnd).burst = s.burst := rfl
@[simp] theorem State.nextRnd_inbox : (s.nextRnd).inbox = s.inbox := rfl
@[simp] theorem State.nextRnd_reg (y : Nibble) : (s.nextRnd).reg y = s.reg y := rfl
@[simp] theorem State.nextRnd_keyDown (k' : Nibble) : (s.nextRnd).keyDown k' = s.keyDown k' := rfl
@[simp] theorem State.nextRnd_readByte (a' : Nat) : (s.nextRnd).readByte a' = s.readByte a' := rfl
@[simp] theorem State.nextRnd_readBytes (a' n' : Nat) : (s.nextRnd).readBytes a' n' = s.readBytes a' n' := rfl
@[simp] theorem State.nextRnd_fetch : (s.nextRnd).fetch = s.fetch := rfl
@[simp] theorem State.nextRnd_faulted : (s.nextRnd).faulted = s.faulted := rfl
@[simp] theorem State.nextRnd_base : (s.nextRnd).base = s.base := rfl
@[simp] theorem State.nextRnd_instrAddr : (s.nextRnd).instrAddr = s.instrAddr := rfl
@[simp] theorem State.nextRnd_regRun (y : Nibble) : (s.nextRnd).regRun y = s.regRun y := rfl

/-! ### setBurst -/

@[simp] theorem State.setBurst_v (n : Nat) : (s.setBurst n).v = s.v := rfl
@[simp] theorem State.setBurst_i (n : Nat) : (s.setBurst n).i = s.i := rfl
@[simp] theorem State.setBurst_pc (n : Nat) : (s.setBurst n).pc = s.pc := rfl
@[simp] theorem State.setBurst_stack (n : Nat) : (s.setBurst n).stack = s.stack := rfl
@[simp] theorem State.setBurst_sp (n : Nat) : (s.setBurst n).sp = s.sp := rfl
@[simp] theorem State.setBurst_dt (n : Nat) : (s.setBurst n).dt = s.dt := rfl
@[simp] theorem State.setBurst_st (n : Nat) : (s.setBurst n).st = s.st := rfl
@[simp] theorem State.setBurst_key (n : Nat) : (s.setBurst n).key = s.key := rfl
@[simp] theorem State.setBurst_mem (n : Nat) : (s.setBurst n).mem = s.mem := rfl
@[simp] theorem State.setBurst_disp (n : Nat) : (s.setBurst n).disp = s.disp := rfl
@[simp] theorem State.setBurst_paused (n : Nat) : (s.setBurst n).paused = s.paused := rfl
@[simp] theorem State.setBurst_waiting (n : Nat) : (s.setBurst n).waiting = s.waiting := rfl
@[simp] theorem State.setBurst_fault (n : Nat) : (s.setBurst n).fault = s.fault := rfl
@[simp] theorem State.setBurst_events (n : Nat) : (s.setBurst n).events = s.events := rfl
@[simp] theorem State.setBurst_cfg (n : Nat) : (s.setBurst n).cfg = s.cfg := rfl
@[simp] theorem State.setBurst_loadStatus (n : Nat) : (s.setBurst n).loadStatus = s.loadStatus := rfl
@[simp] theorem State.setBurst_rndPos (n : Nat) : (s.setBurst n).rndPos = s.rndPos := rfl
@[simp] theorem State.setBurst_burst (n : Nat) : (s.setBurst n).burst = n := rfl
@[simp] theorem State.setBurst_inbox (n : Nat) : (s.setBurst n).inbox = s.inbox := rfl
@[simp] theorem State.setBurst_reg (n : Nat) (y : Nibble) : (s.setBurst n).reg y = s.reg y := rfl
@[simp] theorem State.setBurst_keyDown (n : Nat) (k' : Nibble) : (s.setBurst n).keyDown k' = s.keyDown k' := rfl
@[simp] theorem State.setBurst_readByte (n : Nat) (a' : Nat) : (s.setBurst n).readByte a' = s.readByte a' := rfl
@[simp] theorem State.setBurst_readBytes (n : Nat) (a' n' : Nat) : (s.setBurst n).readBytes a' n' = s.readBytes a' n' := rfl
@[simp] theorem State.setBurst_fetch (n : Nat) : (s.setBurst n).fetch = s.fetch := rfl
@[simp] theorem State.setBurst_faulted (n : Nat) : (s.setBurst n).faulted = s.faulted := rfl
@[simp] theorem State.setBurst_base (n : Nat) : (s.setBurst n).base = s.base := rfl
@[simp] theorem State.setBurst_instrAddr (n : Nat) : (s.setBurst n).instrAddr = s.instrAddr := rfl
@[simp] theorem State.setBurst_regRun (n : Nat) (y : Nibble) : (s.setBurst n).regRun y = s.regRun y := rfl

/-! ### setInbox -/

@[simp] theorem State.setInbox_v (cs : List Command) : (s.setInbox cs).v = s.v := rfl
@[simp] theorem State.setInbox_i (cs : List Command) : (s.setInbox cs).i = s.i := rfl
@[simp] theorem State.setInbox_pc (cs : List Command) : (s.setInbox cs).pc = s.pc := rfl
@[simp] theorem State.setInbox_stack (cs : List Command) : (s.setInbox cs).stack = s.stack := rfl
@[simp] theorem State.setInbox_sp (cs : List Command) : (s.setInbox cs).sp = s.sp := rfl
@[simp] theorem State.setInbox_dt (cs : List Command) : (s.setInbox cs).dt = s.dt := rfl
@[simp] theorem State.setInbox_st (cs : List Command) : (s.setInbox cs).st = s.st := rfl
@[simp] theorem State.setInbox_key (cs : List Command) : (s.setInbox cs).key = s.key := rfl
@[simp] theorem State.setInbox_mem (cs : List Command) : (s.setInbox cs).mem = s.mem := rfl
@[simp] theorem State.setInbox_disp (cs : List Command) : (s.setInbox cs).disp = s.disp := rfl
@[simp] theorem State.setInbox_paused (cs : List Command) : (s.setInbox cs).paused = s.paused := rfl
@[simp] theorem State.setInbox_waiting (cs : List Command) : (s.setInbox cs).waiting = s.waiting := rfl
@[simp] theorem State.setInbox_fault (cs : List Command) : (s.setInbox cs).fault = s.fault := rfl
@[simp] theorem State.setInbox_events (cs : List Command) : (s.setInbox cs).events = s.events := rfl
@[simp] theorem State.setInbox_cfg (cs : List Command) : (s.setInbox cs).cfg = s.cfg := rfl
@[simp] theorem State.setInbox_loadStatus (cs : List Command) : (s.setInbox cs).loadStatus = s.loadStatus := rfl
@[simp] theorem State.setInbox_rndPos (cs : List Command) : (s.setInbox cs).rndPos = s.rndPos := rfl
@[simp] theorem State.setInbox_burst (cs : List Command) : (s.setInbox cs).burst = s.burst := rfl
@[simp] theorem State.setInbox_inbox (cs : List Command) : (s.setInbox cs).inbox = cs := rfl
@[simp] theorem State.setInbox_reg (cs : List Command) (y : Nibble) : (s.setInbox cs).reg y = s.reg y := rfl
@[simp] theorem State.setInbox_keyDown (cs : List Command) (k' : Nibble) : (s.setInbox cs).keyDown k' = s.keyDown k' := rfl
@[simp] theorem State.setInbox_readByte (cs : List Command) (a' : Nat) : (s.setInbox cs).readByte a' = s.readByte a' := rfl
@[simp] theorem State.setInbox_readBytes (cs : List Command) (a' n' : Nat) : (s.setInbox cs).readBytes a' n' = s.readBytes a' n' := rfl
@[simp] theorem State.setInbox_fetch (cs : List Command) : (s.setInbox cs).fetch = s.fetch := rfl
@[simp] theorem State.setInbox_faulted (cs : List Command) : (s.setInbox cs).faulted = s.faulted := rfl
@[simp] theorem State.setInbox_base (cs : List Command) : (s.setInbox cs).base = s.base := rfl
@[simp] theorem State.setInbox_instrAddr (cs : List Command) : (s.setInbox cs).instrAddr = s.instrAddr := rfl
@[simp] theorem State.setInbox_regRun (cs : List Command) (y : Nibble) : (s.setInbox cs).regRun y = s.regRun y := rfl

end Sys2Proof.Machine
end

