-- ==== Sys2Proof/Laws/Memory.lean ====
section
/-!
SUPPORT. The laws of memory: read after write, other addresses left alone, and the canonical form kept.
-/

namespace Sys2Proof.Machine

variable {bg : Nat → Byte} {m : Memory}

/-- Below every listed address memory reads as unlisted. -/
theorem Memory.read_of_lt {a : Nat} (h : ∀ c ∈ m, a < c.1) : Memory.read bg m a = bg a := by
  induction m with
  | nil => rfl
  | cons c rest ih =>
    have hc := h c (by simp)
    have hrest := ih fun d hd => h d (by simp [hd])
    rw [Memory.read, if_neg (by omega), hrest]

theorem Memory.read_write_same (hm : Memory.wf bg m) (a : Nat) (b : Byte) :
    Memory.read bg (Memory.write bg m a b) a = b := by
  induction m with
  | nil => by_cases h : b = bg a <;> simp [Memory.write, Memory.read, h]
  | cons c rest ih =>
    obtain ⟨k, v⟩ := c
    obtain ⟨hsort, hmem⟩ := hm
    rw [List.pairwise_cons] at hsort
    have hrest : Memory.wf bg rest := ⟨hsort.2, fun d hd => hmem d (by simp [hd])⟩
    rw [Memory.write]
    split
    · rw [Memory.read, if_neg (by omega), ih hrest]
    · split
      · split
        · rename_i _ hka hb
          rw [Memory.read_of_lt fun d hd => hka ▸ hsort.1 d hd, hb]
        · simp [Memory.read]
      · split
        · rename_i hlt hne hb
          rw [Memory.read, if_neg hne, Memory.read_of_lt, hb]
          intro d hd
          have := hsort.1 d hd
          simp only at this
          omega
        · simp [Memory.read]

theorem Memory.read_write_ne {a a' : Nat} (b : Byte) (h : a' ≠ a) :
    Memory.read bg (Memory.write bg m a b) a' = Memory.read bg m a' := by
  induction m with
  | nil => by_cases hb : b = bg a <;> simp [Memory.write, Memory.read, hb, Ne.symm h]
  | cons c rest ih =>
    obtain ⟨k, v⟩ := c
    rw [Memory.write]
    split
    · simp only [Memory.read, ih]
    · split
      · rename_i _ hka
        split <;> simp [Memory.read, hka, Ne.symm h]
      · split <;> simp [Memory.read, Ne.symm h]

/-- Every entry a write leaves is an old one or the written one. -/
theorem Memory.mem_write {a : Nat} {b : Byte} {c : Host.Cell} (h : c ∈ Memory.write bg m a b) :
    c ∈ m ∨ (c = (a, b) ∧ b ≠ bg a) := by
  induction m with
  | nil =>
    rw [Memory.write] at h
    split at h
    · simp at h
    · rename_i hb
      exact .inr ⟨by simpa using h, hb⟩
  | cons d rest ih =>
    obtain ⟨k, v⟩ := d
    rw [Memory.write] at h
    split at h
    · rcases List.mem_cons.mp h with h | h
      · simp [h]
      · rcases ih h with h | h <;> simp [h]
    · split at h <;> split at h <;> simp only [List.mem_cons] at h ⊢ <;> tauto

/-- A write keeps the canonical form. -/
theorem Memory.wf_write (hm : Memory.wf bg m) {a : Nat} (ha : a < Config.memSize) (b : Byte) :
    Memory.wf bg (Memory.write bg m a b) := by
  refine ⟨?_, fun c hc => ?_⟩
  · induction m with
    | nil => rw [Memory.write]; split <;> simp
    | cons d rest ih =>
      obtain ⟨k, v⟩ := d
      obtain ⟨hsort, hmem⟩ := hm
      have hrest : Memory.wf bg rest := ⟨(List.pairwise_cons.mp hsort).2, fun d hd => hmem d (by simp [hd])⟩
      have hk := (List.pairwise_cons.mp hsort).1
      rw [Memory.write]
      split
      · rename_i hlt
        refine List.pairwise_cons.mpr ⟨fun c hc => ?_, ih hrest⟩
        rcases Memory.mem_write hc with h | ⟨h, -⟩
        · exact hk c h
        · simpa [h] using hlt
      · split
        · rename_i _ hka
          split
          · exact hrest.1
          · exact List.pairwise_cons.mpr ⟨fun c hc => by simpa [← hka] using hk c hc, hrest.1⟩
        · split
          · exact hsort
          · rename_i hlt hne _
            refine List.pairwise_cons.mpr ⟨fun c hc => ?_, hsort⟩
            rcases List.mem_cons.mp hc with h | h
            · simp only [h]; omega
            · have := hk c h
              simp only at this ⊢
              omega
  · rcases Memory.mem_write hc with h | ⟨h, hb⟩
    · exact hm.2 c h
    · simpa [h] using ⟨ha, hb⟩

/-- A run of writes inside memory keeps the canonical form. -/
theorem Memory.wf_writeRun (bs : List Byte) : ∀ {m : Memory} {base : Nat}, Memory.wf bg m →
    base + bs.length ≤ Config.memSize → Memory.wf bg (Memory.writeRun bg m base bs) := by
  induction bs with
  | nil => intro m base hm _; exact hm
  | cons b bs ih =>
    intro m base hm hlen
    rw [List.length_cons] at hlen
    exact ih (Memory.wf_write hm (by omega) b) (by omega)

/-- A run of writes leaves every address outside it alone. -/
theorem Memory.read_writeRun_outside (bs : List Byte) : ∀ {m : Memory} {base a : Nat},
    (a < base ∨ base + bs.length ≤ a) →
    Memory.read bg (Memory.writeRun bg m base bs) a = Memory.read bg m a := by
  induction bs with
  | nil => intro m base a _; rfl
  | cons b bs ih =>
    intro m base a h
    rw [List.length_cons] at h
    rw [Memory.writeRun, ih (by omega), Memory.read_write_ne b (by omega)]

/-- A run of writes puts byte number `k` at the `k`-th address. -/
theorem Memory.read_writeRun_inside (bs : List Byte) : ∀ {m : Memory} {base k : Nat} (hk : k < bs.length),
    Memory.wf bg m → base + bs.length ≤ Config.memSize →
    Memory.read bg (Memory.writeRun bg m base bs) (base + k) = bs[k] := by
  induction bs with
  | nil => intro m base k hk; simp at hk
  | cons b bs ih =>
    intro m base k hk hm hlen
    rw [List.length_cons] at hk hlen
    rw [Memory.writeRun]
    cases k with
    | zero => rw [Memory.read_writeRun_outside bs (by omega), Nat.add_zero, Memory.read_write_same hm]; rfl
    | succ j =>
      have := ih (m := Memory.write bg m base b) (base := base + 1) (k := j) (by omega)
        (Memory.wf_write hm (by omega) b) (by omega)
      rw [show base + (j + 1) = base + 1 + j by omega, this]
      rfl

@[simp] theorem Memory.readRun_length (base len : Nat) : (Memory.readRun bg m base len).length = len := by
  simp [Memory.readRun]

theorem Memory.readRun_getElem {base len k : Nat} (hk : k < (Memory.readRun bg m base len).length) :
    (Memory.readRun bg m base len)[k] = Memory.read bg m (base + k) := by
  simp [Memory.readRun]

/-- Empty memory is canonical. -/
@[simp] theorem Memory.wf_nil : Memory.wf bg [] := ⟨List.Pairwise.nil, by simp⟩

end Sys2Proof.Machine
end

