-- ==== Sys2Proof/Laws/Ops.lean ====
section
/-!
SUPPORT. One lemma per shared operation, saying everything it can do, for proofs to cite instead of unfolding it.
-/

namespace Sys2Proof.Machine

variable (s : State)

/-! ## Registers and flags -/

theorem State.reg_setReg (x y : Nibble) (b : Byte) : (s.setReg x b).reg y = if y = x then b else s.reg y := by
  simp only [State.reg, State.setReg, Vector.getElem_set]
  by_cases h : y = x
  · simp [h]
  · have : x.toNat ≠ y.toNat := fun e => h (BitVec.eq_of_toNat_eq e.symm)
    simp [h, this]

@[simp] theorem State.reg_setReg_same (x : Nibble) (b : Byte) : (s.setReg x b).reg x = b := by
  simp [State.reg_setReg]

theorem State.reg_setReg_ne {x y : Nibble} (h : y ≠ x) (b : Byte) : (s.setReg x b).reg y = s.reg y := by
  simp [State.reg_setReg, h]

/-- A register write is a change of `v` alone. -/
theorem State.setReg_eq (x : Nibble) (b : Byte) : s.setReg x b = { s with v := (s.setReg x b).v } := rfl

theorem State.resultThenFlag_reg (x y : Nibble) (r f : Byte) :
    (s.resultThenFlag x r f).reg y = if y = flagReg then f else if y = x then r else s.reg y := by
  simp only [State.resultThenFlag, State.reg_setReg]

theorem State.flagThenResult_reg (x y : Nibble) (r f : Byte) :
    (s.flagThenResult x r f).reg y = if y = x then r else if y = flagReg then f else s.reg y := by
  simp only [State.flagThenResult, State.reg_setReg]

theorem State.resultThenFlag_eq (x : Nibble) (r f : Byte) :
    s.resultThenFlag x r f = { s with v := (s.resultThenFlag x r f).v } := rfl

theorem State.flagThenResult_eq (x : Nibble) (r f : Byte) :
    s.flagThenResult x r f = { s with v := (s.flagThenResult x r f).v } := rfl

/-- Loading a run of registers: register `k` from byte `k − j` where the run reaches it, unchanged elsewhere (R185). -/
theorem loadRun_getElem (bs : List Byte) : ∀ (regs : Vector Byte 16) (j k : Nat) (hk : k < 16),
    (loadRun regs j bs)[k] = if h : j ≤ k ∧ k < j + bs.length then bs[k - j]'(by omega) else regs[k] := by
  induction bs with
  | nil => intro regs j k hk; simp [loadRun]
  | cons b bs ih =>
    intro regs j k hk
    rw [loadRun, ih]
    by_cases hjk : k = j
    · subst hjk
      simp
    · by_cases hin : j + 1 ≤ k ∧ k < j + 1 + bs.length
      · have hin' : j ≤ k ∧ k < j + (b :: bs).length := by rw [List.length_cons]; omega
        simp only [hin, hin', and_self, dite_true]
        have : k - j = (k - (j + 1)) + 1 := by omega
        simp only [this, List.getElem_cons_succ]
      · have hin' : ¬ (j ≤ k ∧ k < j + (b :: bs).length) := by rw [List.length_cons]; omega
        rw [dif_neg hin, dif_neg hin', Vector.getElem_setIfInBounds_ne _ (Ne.symm hjk)]

/-! ## Program counter -/

theorem State.skipIf_true : s.skipIf true = s.advance := rfl
theorem State.skipIf_false : s.skipIf false = s := rfl

/-- A skip changes PC alone, by 2 or by nothing. -/
theorem State.skipIf_eq (c : Bool) : s.skipIf c = s.setPc (if c then s.pc + 2 else s.pc) := by
  cases c <;> rfl

/-! ## Stack -/

theorem State.push_some {w : Word} (h : s.sp.val < 16) :
    s.push w = some (s.setStack (s.stack.set s.sp.val w h) ⟨s.sp.val + 1, Nat.succ_lt_succ h⟩) := by
  simp [State.push, h]

theorem State.push_none {w : Word} (h : s.sp = 16) : s.push w = none := by
  simp [State.push, h]

theorem State.pop_some (h : 0 < s.sp.val) (h' : s.sp.val - 1 < 16) :
    s.pop = some (s.stack[s.sp.val - 1]'h', s.setStack s.stack ⟨s.sp.val - 1, Nat.lt_succ_of_lt h'⟩) := by
  simp [State.pop, h]

theorem State.pop_none (h : s.sp = 0) : s.pop = none := by
  simp [State.pop, h]

/-- Whatever a push answers differs in STACK and SP alone. -/
theorem State.push_frame {w : Word} {t : State} (h : s.push w = some t) :
    t = { s with stack := t.stack, sp := t.sp } := by
  unfold State.push at h
  split at h <;> simp only [Option.some.injEq, reduceCtorEq] at h
  subst h
  rfl

/-- Whatever a pop answers differs in SP alone. -/
theorem State.pop_frame {w : Word} {t : State} (h : s.pop = some (w, t)) : t = { s with sp := t.sp } := by
  unfold State.pop at h
  split at h <;> simp only [Option.some.injEq, Prod.mk.injEq, reduceCtorEq] at h
  obtain ⟨-, rfl⟩ := h
  rfl

/-! ## Fault entry -/

@[simp] theorem State.takeFault_eq (t : Trap) (a op : Word) :
    s.takeFault t a op = { s with pc := a, fault := ⟨some t.cause, a, op, t.addr⟩ } := rfl

@[simp] theorem State.raise_eq (t : Trap) (op : Word) :
    s.raise t op = { s with pc := s.pc - 2, fault := ⟨some t.cause, s.pc - 2, op, t.addr⟩ } := rfl

@[simp] theorem State.raise_faulted (t : Trap) (op : Word) : (s.raise t op).faulted = true := rfl

/-- A guarded instruction always answers: its effect without a trap, the fault with one. -/
theorem guarded_cases (t : Option Trap) (op : Word) (e : State) :
    (t = none ∧ guarded t op s e = .next e) ∨ (∃ u, t = some u ∧ guarded t op s e = .next (s.raise u op)) := by
  cases t with
  | none => exact .inl ⟨rfl, rfl⟩
  | some u => exact .inr ⟨u, rfl, rfl⟩

@[simp] theorem guarded_none (op : Word) (e : State) : guarded none op s e = .next e := rfl
@[simp] theorem guarded_some (t : Trap) (op : Word) (e : State) : guarded (some t) op s e = .next (s.raise t op) := rfl

theorem readTrap_none {base len : Nat} : readTrap base len = none ↔ len = 0 ∨ base + len ≤ 4096 := by
  unfold readTrap
  split <;> simp_all

theorem readTrap_some {base len : Nat} (h : len ≠ 0) (hb : 4096 < base + len) :
    readTrap base len = some ⟨.addressOutOfRange, firstBad base⟩ := by
  have : ¬ (len = 0 ∨ base + len ≤ Config.memSize) := by simp [Config.memSize]; omega
  rw [readTrap, if_neg this]

theorem writeTrap_none {c : Config} {base len : Nat} :
    writeTrap c base len = none ↔
      (len = 0 ∨ base + len ≤ 4096) ∧ (0x200 ≤ base ∨ c.lowmemWrite = .allow) := by
  unfold writeTrap
  cases h : readTrap base len with
  | some t =>
    have : ¬ (len = 0 ∨ base + len ≤ 4096) := fun hc => by rw [readTrap_none.mpr hc] at h; simp at h
    simp [this]
  | none =>
    have := readTrap_none.mp h
    cases hp : c.lowmemWrite <;> simp [Config.programOrigin, this]

theorem writeTrap_outOfRange {c : Config} {base len : Nat} (h : len ≠ 0) (hb : 4096 < base + len) :
    writeTrap c base len = some ⟨.addressOutOfRange, firstBad base⟩ := by
  rw [writeTrap, readTrap_some h hb]

theorem writeTrap_reserved {c : Config} {base len : Nat} (h : base + len ≤ 4096) (hb : base < 0x200)
    (hp : c.lowmemWrite = .fault) : writeTrap c base len = some ⟨.reservedWrite, BitVec.ofNat 17 base⟩ := by
  rw [writeTrap, readTrap_none.mpr (.inr h)]
  simp [hb, hp, Config.programOrigin]

theorem keyTrap_none {b : Byte} : keyTrap b = none ↔ b.toNat ≤ 15 := by
  unfold keyTrap
  split <;> simp <;> omega

theorem keyTrap_some {b : Byte} (h : 15 < b.toNat) : keyTrap b = some ⟨.keyOutOfRange, zextTrap b⟩ := by
  rw [keyTrap, if_pos h]

/-! ## Fetch -/

theorem State.fetch_some (h : s.pc.toNat ≤ 4094) :
    s.fetch = some (wordOfBytes (s.readByte s.pc.toNat) (s.readByte (s.pc.toNat + 1))) := by
  rw [State.fetch, if_pos h]

theorem State.fetch_none (h : 4094 < s.pc.toNat) : s.fetch = none := by
  rw [State.fetch, if_neg (by omega)]

/-! ## Display -/

theorem Display.cell_toggle (d : Display) (r r' : Fin 32) (c c' : Fin 64) :
    (d.toggle r c).cell r' c' = if r' = r ∧ c' = c then !d.cell r c else d.cell r' c' := by
  simp only [Display.cell, Display.toggle, Vector.getElem_set]
  by_cases hr : r' = r
  · subst hr
    by_cases hc : c' = c
    · subst hc; simp
    · have : c.val ≠ c'.val := fun e => hc (Fin.ext e.symm)
      simp [hc, this]
  · have : r.val ≠ r'.val := fun e => hr (Fin.ext e.symm)
    simp [hr, this]

@[simp] theorem Display.cell_blank (r : Fin 32) (c : Fin 64) : Display.blank.cell r c = false := by
  simp [Display.cell, Display.blank]

/-- Displays with the same cells are the same data. -/
theorem Display.ext_cell {d e : Display} (h : ∀ r c, d.cell r c = e.cell r c) : d = e := by
  refine Vector.ext fun r hr => Vector.ext fun c hc => ?_
  exact h ⟨r, hr⟩ ⟨c, hc⟩

/-! ## Memory in a state -/

theorem State.readByte_storeBytes_outside {base a : Nat} (bs : List Byte) (h : a < base ∨ base + bs.length ≤ a) :
    (s.storeBytes base bs).readByte a = s.readByte a :=
  Memory.read_writeRun_outside bs h

theorem State.readByte_storeBytes_inside {base k : Nat} {bs : List Byte} (hk : k < bs.length)
    (hm : Memory.wf s.cfg.resetByte s.mem) (hb : base + bs.length ≤ 4096) :
    (s.storeBytes base bs).readByte (base + k) = bs[k] :=
  Memory.read_writeRun_inside bs hk hm hb

theorem bcdDigits_length (b : Byte) : (bcdDigits b).length = 3 := rfl

theorem State.regRun_length (x : Nibble) : (s.regRun x).length = x.toNat + 1 := by
  have := x.isLt
  simp [State.regRun]
  omega

theorem State.regRun_getElem {x : Nibble} {k : Nat} (hk : k < (s.regRun x).length) (h16 : k < 16) :
    (s.regRun x)[k] = s.v[k] := by
  simp [State.regRun]

@[simp] theorem State.readBytes_length (base len : Nat) : (s.readBytes base len).length = len := by
  simp [State.readBytes]

theorem State.readBytes_getElem {base len k : Nat} (hk : k < (s.readBytes base len).length) :
    (s.readBytes base len)[k] = s.readByte (base + k) :=
  Memory.readRun_getElem hk

/-- The reset memory of every configuration reads as RESET leaves it. -/
theorem cmdReset_readByte (a : Nat) : (cmdReset s).readByte a = s.cfg.resetByte a := rfl

/-! ## Steps -/

theorem endOfStep_faulted {left : Nat} {t : State} (h : t.faulted = true) : endOfStep left t = t.setBurst 0 := by
  simp [endOfStep, h]

theorem endOfStep_last {t : State} (h : t.faulted = false) : endOfStep 1 t = (timerStep t).setBurst 0 := by
  simp [endOfStep, h]

theorem endOfStep_more {left : Nat} {t : State} (h : t.faulted = false) :
    endOfStep (left + 2) t = t.setBurst (left + 1) := by
  simp [endOfStep, h]

end Sys2Proof.Machine
end

