-- ==== Sys2Proof/Laws/PerInstr.lean ====
section
/-!
SUPPORT. Per-instruction families: a statement about an instruction as syntax, and one lemma per constructor.

`InItsRow`: the instruction's word matches the mask and pattern of its own row of spec/30_encoding.md R97.
-/

namespace Sys2Proof.Laws.InItsRow

/-- The word of `i` matches the row of R97 that carries `i`'s mnemonic. -/
def Statement (i : Instr) : Prop :=
  ∃ r ∈ opcodeMap, r.mnemonic = i.mnemonic ∧ encode i &&& r.mask = r.pattern

theorem cls (ign : Nibble) : Statement (.cls ign) :=
  ⟨⟨"CLS", 0xF0FF, 0x00E0⟩, by decide, rfl, by rw [encode, formatI_mask_function]; decide⟩

theorem ret (ign : Nibble) : Statement (.ret ign) :=
  ⟨⟨"RET", 0xF0FF, 0x00EE⟩, by decide, rfl, by rw [encode, formatI_mask_function]; decide⟩

theorem jp (nnn : Addr) : Statement (.jp nnn) :=
  ⟨⟨"JP_nnn", 0xF000, 0x1000⟩, by decide, rfl, by rw [encode, formatA_mask_class]; decide⟩

theorem call (nnn : Addr) : Statement (.call nnn) :=
  ⟨⟨"CALL_nnn", 0xF000, 0x2000⟩, by decide, rfl, by rw [encode, formatA_mask_class]; decide⟩

theorem seImm (x : Nibble) (kk : Byte) : Statement (.seImm x kk) :=
  ⟨⟨"SE_Vx__kk", 0xF000, 0x3000⟩, by decide, rfl, by rw [encode, formatI_mask_class]; decide⟩

theorem sneImm (x : Nibble) (kk : Byte) : Statement (.sneImm x kk) :=
  ⟨⟨"SNE_Vx__kk", 0xF000, 0x4000⟩, by decide, rfl, by rw [encode, formatI_mask_class]; decide⟩

theorem seReg (x y : Nibble) (ign : Nibble) : Statement (.seReg x y ign) :=
  ⟨⟨"SE_Vx__Vy", 0xF000, 0x5000⟩, by decide, rfl, by rw [encode, formatR_mask_class]; decide⟩

theorem ldImm (x : Nibble) (kk : Byte) : Statement (.ldImm x kk) :=
  ⟨⟨"LD_Vx__kk", 0xF000, 0x6000⟩, by decide, rfl, by rw [encode, formatI_mask_class]; decide⟩

theorem addImm (x : Nibble) (kk : Byte) : Statement (.addImm x kk) :=
  ⟨⟨"ADD_Vx__kk", 0xF000, 0x7000⟩, by decide, rfl, by rw [encode, formatI_mask_class]; decide⟩

theorem ldReg (x y : Nibble) : Statement (.ldReg x y) :=
  ⟨⟨"LD_Vx__Vy", 0xF00F, 0x8000⟩, by decide, rfl, by rw [encode, formatR_mask_function]; decide⟩

theorem orReg (x y : Nibble) : Statement (.orReg x y) :=
  ⟨⟨"OR_Vx__Vy", 0xF00F, 0x8001⟩, by decide, rfl, by rw [encode, formatR_mask_function]; decide⟩

theorem andReg (x y : Nibble) : Statement (.andReg x y) :=
  ⟨⟨"AND_Vx__Vy", 0xF00F, 0x8002⟩, by decide, rfl, by rw [encode, formatR_mask_function]; decide⟩

theorem xorReg (x y : Nibble) : Statement (.xorReg x y) :=
  ⟨⟨"XOR_Vx__Vy", 0xF00F, 0x8003⟩, by decide, rfl, by rw [encode, formatR_mask_function]; decide⟩

theorem addReg (x y : Nibble) : Statement (.addReg x y) :=
  ⟨⟨"ADD_Vx__Vy", 0xF00F, 0x8004⟩, by decide, rfl, by rw [encode, formatR_mask_function]; decide⟩

theorem subReg (x y : Nibble) : Statement (.subReg x y) :=
  ⟨⟨"SUB_Vx__Vy", 0xF00F, 0x8005⟩, by decide, rfl, by rw [encode, formatR_mask_function]; decide⟩

theorem shr (x y : Nibble) : Statement (.shr x y) :=
  ⟨⟨"SHR_Vx__Vy", 0xF00F, 0x8006⟩, by decide, rfl, by rw [encode, formatR_mask_function]; decide⟩

theorem subn (x y : Nibble) : Statement (.subn x y) :=
  ⟨⟨"SUBN_Vx__Vy", 0xF00F, 0x8007⟩, by decide, rfl, by rw [encode, formatR_mask_function]; decide⟩

theorem shl (x y : Nibble) : Statement (.shl x y) :=
  ⟨⟨"SHL_Vx__Vy", 0xF00F, 0x800E⟩, by decide, rfl, by rw [encode, formatR_mask_function]; decide⟩

theorem sneReg (x y : Nibble) (ign : Nibble) : Statement (.sneReg x y ign) :=
  ⟨⟨"SNE_Vx__Vy", 0xF000, 0x9000⟩, by decide, rfl, by rw [encode, formatR_mask_class]; decide⟩

theorem ldI (nnn : Addr) : Statement (.ldI nnn) :=
  ⟨⟨"LD_I__nnn", 0xF000, 0xA000⟩, by decide, rfl, by rw [encode, formatA_mask_class]; decide⟩

theorem jpV0 (nnn : Addr) : Statement (.jpV0 nnn) :=
  ⟨⟨"JP_V0__nnn", 0xF000, 0xB000⟩, by decide, rfl, by rw [encode, formatA_mask_class]; decide⟩

theorem rnd (x : Nibble) (kk : Byte) : Statement (.rnd x kk) :=
  ⟨⟨"RND_Vx__kk", 0xF000, 0xC000⟩, by decide, rfl, by rw [encode, formatI_mask_class]; decide⟩

theorem drw (x y n : Nibble) : Statement (.drw x y n) :=
  ⟨⟨"DRW_Vx__Vy__n", 0xF000, 0xD000⟩, by decide, rfl, by rw [encode, formatR_mask_class]; decide⟩

theorem skp (x : Nibble) : Statement (.skp x) :=
  ⟨⟨"SKP_Vx", 0xF0FF, 0xE09E⟩, by decide, rfl, by rw [encode, formatI_mask_function]; decide⟩

theorem sknp (x : Nibble) : Statement (.sknp x) :=
  ⟨⟨"SKNP_Vx", 0xF0FF, 0xE0A1⟩, by decide, rfl, by rw [encode, formatI_mask_function]; decide⟩

theorem ldVxDt (x : Nibble) : Statement (.ldVxDt x) :=
  ⟨⟨"LD_Vx__DT", 0xF0FF, 0xF007⟩, by decide, rfl, by rw [encode, formatI_mask_function]; decide⟩

theorem ldVxK (x : Nibble) : Statement (.ldVxK x) :=
  ⟨⟨"LD_Vx__K", 0xF0FF, 0xF00A⟩, by decide, rfl, by rw [encode, formatI_mask_function]; decide⟩

theorem ldDtVx (x : Nibble) : Statement (.ldDtVx x) :=
  ⟨⟨"LD_DT__Vx", 0xF0FF, 0xF015⟩, by decide, rfl, by rw [encode, formatI_mask_function]; decide⟩

theorem ldStVx (x : Nibble) : Statement (.ldStVx x) :=
  ⟨⟨"LD_ST__Vx", 0xF0FF, 0xF018⟩, by decide, rfl, by rw [encode, formatI_mask_function]; decide⟩

theorem addI (x : Nibble) : Statement (.addI x) :=
  ⟨⟨"ADD_I__Vx", 0xF0FF, 0xF01E⟩, by decide, rfl, by rw [encode, formatI_mask_function]; decide⟩

theorem ldF (x : Nibble) : Statement (.ldF x) :=
  ⟨⟨"LD_F__Vx", 0xF0FF, 0xF029⟩, by decide, rfl, by rw [encode, formatI_mask_function]; decide⟩

theorem ldB (x : Nibble) : Statement (.ldB x) :=
  ⟨⟨"LD_B__Vx", 0xF0FF, 0xF033⟩, by decide, rfl, by rw [encode, formatI_mask_function]; decide⟩

theorem ldMemVx (x : Nibble) : Statement (.ldMemVx x) :=
  ⟨⟨"LD__I___Vx", 0xF0FF, 0xF055⟩, by decide, rfl, by rw [encode, formatI_mask_function]; decide⟩

theorem ldVxMem (x : Nibble) : Statement (.ldVxMem x) :=
  ⟨⟨"LD_Vx___I", 0xF0FF, 0xF065⟩, by decide, rfl, by rw [encode, formatI_mask_function]; decide⟩

end Sys2Proof.Laws.InItsRow
end

