-- ==== Sys2Proof/Tests/Slice0.lean ====
section
/-!
SUPPORT. Tests of the model on small states, and for every obligation with hypotheses a state and operands that meet them.

Expected results are the vectors of spec/95_test_vectors.md, named by their number there (F, A, M, G, K, W, C), or hand
calculation from the rule named. Each machine test is one step from reset, with the named registers set.
-/

namespace Sys2Proof.Tests

open Sys2Proof Sys2Proof.Machine

/-! ## Small states -/

/-- The reset state with some general registers set. -/
def regs (l : List (Nibble × Byte)) : State := l.foldl (fun s p => s.setReg p.1 p.2) State.reset

/-- The reset state with I and some general registers set. -/
def regsAt (i : Word) (l : List (Nibble × Byte)) : State := (regs l).setI i

/-- The state an outcome answers; the power-on state, which no test expects, for a fault or a refusal. -/
def nextOf (o : Result) : State :=
  match o with
  | .next t => t
  | .fault _ => State.powerOn
  | .refused _ => State.powerOn

/-- The state after one step that runs the word `w`. -/
def after (w : Nat) (s : State) : State := nextOf (step (s.withFetchWord 16 w))

/-- Cause code, pc, op and addr of the latch, as numbers. -/
def latch (s : State) : Nat × Nat × Nat × Nat :=
  (s.fault.code.toNat, s.fault.pc.toNat, s.fault.op.toNat, s.fault.addr.toNat)

/-- `s` with the low-memory policy allow. -/
def allowing (s : State) : State := { s with cfg := { s.cfg with lowmemWrite := .allow } }

/-! ## WellFormed: ill-formed terms are refused -/

theorem test_canonical_refuses_cls : Instr.canonical (.cls 1) = false := by decide
theorem test_canonical_refuses_ret : Instr.canonical (.ret 0xA) = false := by decide
theorem test_canonical_refuses_seReg : Instr.canonical (.seReg 1 2 7) = false := by decide
theorem test_canonical_refuses_sneReg : Instr.canonical (.sneReg 3 3 5) = false := by decide
theorem test_canonical_accepts : Instr.canonical (.cls 0) = true ∧ Instr.canonical (.drw 0 1 15) = true := by decide
theorem test_programFits_boundary :
    programFits (List.replicate 3584 0) = true ∧ programFits (List.replicate 3585 0) = false := by
  simp only [programFits, List.length_replicate]
  decide

/-! ## Decoding (R94 to R98); every constructor's own word is in Decode.lean -/

/-- Ignored bits take no part in choosing the instruction (R95, R94). -/
theorem test_decode_ignored_bits :
    decodeWord 0x0AEE = .ok (.ret 0xA) ∧ decodeWord 0x9335 = .ok (.sneReg 3 3 5) := by decide

/-- R96's unrecognized words. -/
theorem test_decode_unrecognized :
    decodeWord 0x0123 = .error (.unrecognized 0x0123) ∧ decodeWord 0x812F = .error (.unrecognized 0x812F) ∧
    decodeWord 0xE59F = .error (.unrecognized 0xE59F) ∧ decodeWord 0xF166 = .error (.unrecognized 0xF166) := by decide

/-- Bytes are taken high byte first, and what follows is left (R60, R90). -/
theorem test_decode_bytes : decode [0x12, 0x34, 0x56] = .ok (.jp 0x234, [0x56]) ∧ decode [0x12] = .error .truncated := by
  decide

/-- The host's numbering of a table word: bit 0 is the word's least significant bit. -/
theorem test_decodeTableWord : decodeTableWord 16 0x6A2F = some (.ldImm 0xA 0x2F) ∧ decodeTableWord 16 0x8128 = none := by
  decide

/-- R100: labels, literal bytes and instructions, from 0x200, high byte first; the loop target is 0x204. -/
theorem test_assemble :
    assemble [.instr (.ldImm 0xA 0x2F), .toLabel .ldI "data", .label "self", .toLabel .jp "self", .label "data",
      .bytes [0xF0]] = some [0x6A, 0x2F, 0xA2, 0x06, 0x12, 0x04, 0xF0] := by decide
theorem test_text :
    Instr.text (.shr 0xA 2) = "SHR VA, V2" ∧ Instr.text (.drw 0 1 5) = "DRW V0, V1, 0x5" ∧
    Instr.text (.ldMemVx 3) = "LD [I], V3" := by decide

/-! ## Control transfer: F vectors -/

theorem test_ret_F3 :
    let s := after 0x0AEE ((State.reset.setStack ((State.reset.stack.set 0 0x204).set 1 0x300) 2))
    s.pc = 0x300 ∧ s.sp = 1 ∧ s.stack[1] = 0x300 ∧ s.events = [] := by decide
theorem test_ret_F2 : (after 0x00EE .reset).pc = 0x200 ∧ latch (after 0x00EE .reset) = (3, 0x200, 0x00EE, 0) := by decide
theorem test_jp_F4 : (after 0x1234 .reset).pc = 0x234 := by decide
theorem test_call_F7 :
    let s := after 0x2300 (State.reset.setStack State.reset.stack 15)
    s.pc = 0x300 ∧ s.sp = 16 ∧ s.stack[15] = 0x202 := by decide
theorem test_call_F8 :
    let s := after 0x2300 (State.reset.setStack State.reset.stack 16)
    s.pc = 0x200 ∧ s.stack = State.reset.stack ∧ latch s = (2, 0x200, 0x2300, 0) := by decide
theorem test_jpV0_F10 : (after 0xBFFF (regs [(0, 255)])).pc = 0x10FE := by decide
theorem test_seImm_F11_F12 :
    (after 0x3A07 (regs [(10, 7)])).pc = 0x204 ∧ (after 0x3A07 (regs [(10, 8)])).pc = 0x202 := by decide
theorem test_sneImm_F13_F14 :
    (after 0x4A07 (regs [(10, 7)])).pc = 0x202 ∧ (after 0x4A07 (regs [(10, 8)])).pc = 0x204 := by decide
theorem test_seReg_F17 : (after 0x5127 (regs [(1, 9), (2, 9)])).pc = 0x204 ∧ (after 0x5127 (regs [(1, 9)])).pc = 0x202 := by
  decide
theorem test_sneReg_F19_F20 :
    (after 0x9120 (regs [(1, 1), (2, 2)])).pc = 0x204 ∧ (after 0x9120 (regs [(1, 2), (2, 2)])).pc = 0x202 := by decide

/-! ## Fetch: F22 to F25 -/

theorem test_fetch_F22 :
    nextOf (step (State.reset.setPc 4094)) =
      ((State.reset.setPc 4096).emit (.unknownOpcode 0 0xFFE)).setBurst 9 := by decide
theorem test_fetch_F23 : latch (nextOf (step (State.reset.setPc 4095))) = (1, 4095, 0, 4096) := by decide
theorem test_fetch_F25 : (after 0x602A (State.reset.setPc 0x203)).reg 0 = 0x2A := by decide

/-! ## Loads and arithmetic: A vectors -/

theorem test_ldImm_A2 : (after 0x6F07 .reset).reg 0xF = 7 := by decide
theorem test_addImm_A3 :
    let s := after 0x7305 (regs [(3, 0xFE), (0xF, 0x55)])
    s.reg 3 = 3 ∧ s.reg 0xF = 0x55 := by decide
theorem test_ldReg_A5 :
    let s := after 0x8120 (regs [(2, 0x77), (0xF, 1)])
    s.reg 1 = 0x77 ∧ s.reg 0xF = 1 := by decide
theorem test_orReg_A10 :
    let s := after 0x81F1 (regs [(1, 0xF0), (0xF, 1)])
    s.reg 1 = 0xF1 ∧ s.reg 0xF = 0 := by decide
theorem test_orReg_A9 : (after 0x8F21 (regs [(0xF, 0xF0), (2, 0xF)])).reg 0xF = 0 := by decide
theorem test_andReg_A7 :
    let s := after 0x8122 (regs [(1, 0xC), (2, 5), (0xF, 1)])
    s.reg 1 = 4 ∧ s.reg 0xF = 0 := by decide
theorem test_xorReg_A8 :
    let s := after 0x8123 (regs [(1, 0xC), (2, 5), (0xF, 1)])
    s.reg 1 = 9 ∧ s.reg 0xF = 0 := by decide
theorem test_addReg_A19 :
    let s := after 0x81F4 (regs [(1, 255), (0xF, 1)])
    s.reg 1 = 0 ∧ s.reg 0xF = 1 := by decide
theorem test_addReg_A17 : (after 0x8F24 (regs [(0xF, 0xF0), (2, 0x20)])).reg 0xF = 1 := by decide
theorem test_subReg_A27 :
    let s := after 0x81F5 (regs [(1, 5), (0xF, 7)])
    s.reg 1 = 0xFE ∧ s.reg 0xF = 0 := by decide
theorem test_subReg_A25 : (after 0x8F25 (regs [(0xF, 5), (2, 7)])).reg 0xF = 0xFE := by decide
theorem test_shr_A30 :
    let s := after 0x8126 (regs [(1, 0xAA), (2, 7)])
    s.reg 1 = 3 ∧ s.reg 2 = 7 ∧ s.reg 0xF = 1 := by decide
theorem test_shr_A34 : (after 0x81F6 (regs [(0xF, 7)])).reg 1 = 3 := by decide
theorem test_subn_A40 :
    let s := after 0x81F7 (regs [(1, 5), (0xF, 7)])
    s.reg 1 = 2 ∧ s.reg 0xF = 1 := by decide
theorem test_subn_A37 :
    let s := after 0x8127 (regs [(1, 7), (2, 5)])
    s.reg 1 = 0xFE ∧ s.reg 0xF = 0 := by decide
theorem test_shl_A42 :
    let s := after 0x812E (regs [(2, 0xC1)])
    s.reg 1 = 0x82 ∧ s.reg 2 = 0xC1 ∧ s.reg 0xF = 1 := by decide
theorem test_shl_A48 : (after 0x8FFE (regs [(0xF, 0xC1)])).reg 0xF = 0x82 := by decide

/-! ## Index and memory: M vectors -/

theorem test_ldI_M1 : (after 0xA2F0 .reset).i = 0x2F0 := by decide
theorem test_addI_M2 :
    let s := after 0xF21E (regsAt 0xFFE [(2, 5), (0xF, 9)])
    s.i = 0x1003 ∧ s.reg 0xF = 9 := by decide
theorem test_addI_M3 : (after 0xF21E (regsAt 0xFFFF [(2, 2)])).i = 1 := by decide
theorem test_ldF_M4 : (after 0xF329 (regs [(3, 10)])).i = 10 := by decide
theorem test_ldF_M5 :
    let s := regs [(3, 255)]
    (after 0xF329 { s with cfg := { s.cfg with glyphScale := 5 } }).i = 0x4FB := by decide
theorem test_ldB_M6 :
    let s := after 0xF533 (regsAt 0x300 [(5, 0x9C)])
    s.readBytes 0x2FF 5 = [0, 1, 5, 6, 0] ∧ s.i = 0x300 := by decide
theorem test_ldB_M8 :
    let s := after 0xF033 (regsAt 4094 [(0, 123)])
    latch s = (1, 0x200, 0xF033, 0x1000) ∧ s.readBytes 4094 2 = [0, 0] := by decide
theorem test_ldMemVx_dump :
    let s := after 0xF255 (regsAt 0x300 [(0, 1), (1, 2), (2, 3), (3, 4)])
    s.readBytes 0x300 4 = [1, 2, 3, 0] ∧ s.i = 0x300 := by decide
theorem test_ldMemVx_reserved : latch (after 0xF055 (regsAt 0x1FF [(0, 1)])) = (4, 0x200, 0xF055, 0x1FF) := by decide
theorem test_ldVxMem_load :
    let s := after 0xF165 ((regsAt 0x300 [(2, 9)]).storeBytes 0x300 [7, 8, 6])
    s.reg 0 = 7 ∧ s.reg 1 = 8 ∧ s.reg 2 = 9 ∧ s.i = 0x300 := by decide
/-- The reset font may be read (R67): glyph 0's first two bytes. -/
theorem test_ldVxMem_font : (after 0xF165 (regsAt 0 [])).reg 0 = 0xF0 ∧ (after 0xF165 (regsAt 0 [])).reg 1 = 0x90 := by decide

/-! ## Display: G vectors and hand calculation from R201 -/

theorem test_cls : (after 0x00E0 ((regs [(0xF, 7)]).setDisp (Display.blank.toggle 3 4))).disp = Display.blank := by decide
/-- One row 0xC0 at column 63, row 31: bit 7 at (31, 63), bit 6 wrapped to (31, 0); the second was set, so VF = 1. -/
theorem test_drw_wrap :
    let s := after 0xD011 (((regsAt 0x300 [(0, 63), (1, 31)]).storeBytes 0x300 [0xC0]).setDisp (Display.blank.toggle 31 0))
    s.disp.cell 31 63 = true ∧ s.disp.cell 31 0 = false ∧ s.reg 0xF = 1 := by decide
/-- The address check comes before VF and the display: I = 4095 with two rows. -/
theorem test_drw_fault :
    latch (after 0xD012 (regsAt 4095 [(0xF, 7)])) = (1, 0x200, 0xD012, 4096) ∧
    (after 0xD012 (regsAt 4095 [(0xF, 7)])).reg 0xF = 7 := by decide

/-! ## Keys, timers, random: K vectors -/

theorem test_skp :
    (after 0xE59E ((regs [(5, 15)]).setKey 15 true)).pc = 0x204 ∧ (after 0xE59E (regs [(5, 15)])).pc = 0x202 := by decide
theorem test_skp_range : latch (after 0xE59E (regs [(5, 16)])) = (5, 0x200, 0xE59E, 16) := by decide
theorem test_sknp :
    (after 0xE5A1 ((regs [(5, 15)]).setKey 15 true)).pc = 0x202 ∧ (after 0xE5A1 (regs [(5, 15)])).pc = 0x204 := by decide
theorem test_ldVxDt : (after 0xF307 (State.reset.setDt 9)).reg 3 = 9 := by decide
theorem test_ldDtVx : (after 0xF315 (regs [(3, 9)])).dt = 9 := by decide
theorem test_ldStVx : (after 0xF318 (regs [(3, 9)])).st = 9 ∧ (after 0xF318 (regs [(3, 9)])).soundOn = true := by decide
theorem test_ldVxK :
    let s := after 0xF30A ((regs [(3, 9)]).setKey 1 true)
    s.paused = true ∧ s.waiting = true ∧ s.pc = 0x200 ∧ s.reg 3 = 9 := by decide
/-- K11: whatever byte is drawn, only the bits of kk can be set; here the byte drawn is 0xAB. -/
theorem test_rnd_K11 : (rndWith 0xAB 3 0x0F (regs [(3, 0xFF)])).reg 3 = 0x0B := by decide
theorem test_rnd_zero_mask : (after 0xC300 (regs [(3, 9)])).rndPos = 1 := by decide

/-! ## Steps and commands -/

/-- R126: the step after which the burst is used up counts the timers; a timer at 0 stays 0. -/
theorem test_last_step_counts_timers :
    let s := after 0x1200 ((State.reset.setDt 5).setBurst 1)
    s.dt = 4 ∧ s.st = 0 ∧ s.burst = 0 := by decide
/-- R232: a fault ends the TICK without the timer step. -/
theorem test_fault_ends_tick :
    let s := after 0x00EE ((State.reset.setDt 5).setBurst 1)
    s.dt = 5 ∧ s.burst = 0 ∧ s.faulted = true := by decide
/-- R235: while faulted a TICK is consumed without effect. -/
theorem test_faulted_tick :
    let s := { after 0x00EE State.reset with inbox := [.tick] }
    nextOf (step s) = { s with inbox := [] } := by decide
/-- R8: a command does not land inside a TICK. -/
theorem test_command_waits :
    (after 0x6107 ({ State.reset with inbox := [.reset] }.setBurst 2)).inbox = [.reset] := by decide
/-- R272: LOAD puts the first byte at 0x200 of a reset machine. -/
theorem test_load :
    let s := cmdLoad [0x12, 0x00] (regs [(3, 9)])
    s.readBytes 0x1FF 4 = [0, 0x12, 0x00, 0] ∧ s.reg 3 = 0 ∧ s.pc = 0x200 ∧ s.loadStatus = some .ok := by decide
/-- R240, R241: a press of key 7 completes a wait of V3. -/
theorem test_setKey_completes :
    let s := cmdSetKey 7 true (after 0xF30A State.reset)
    s.reg 3 = 7 ∧ s.pc = 0x202 ∧ s.paused = false ∧ s.waiting = false := by decide
/-- R126 at both ends of a timer's range. -/
theorem test_countDown : countDown 0 = 0 ∧ countDown 1 = 0 ∧ countDown 255 = 254 := by decide

/-! ## Witnesses: every obligation with hypotheses has inputs that meet them, each clause at a boundary of its range -/

/-- Reset memory is canonical, and so is any state's that has listed nothing. -/
theorem witness_memCanonical (s : State) (h : s.mem = []) : s.memCanonical := by
  rw [State.memCanonical, h]
  exact Memory.wf_nil

theorem witness_EncodeOfDecodeIsIdentity : decodeWord 0xFF65 = .ok (.ldVxMem 0xF) := by decide

/-- LogicOperationsResetFlag, AddRegistersCarry, SubtractionsBorrow, ShiftsOfVy: x ≠ 0xF at both ends of the range. -/
theorem witness_notFlagRegister : (0 : Nibble) ≠ 0xF ∧ (0xE : Nibble) ≠ 0xF := by decide

/-- The smallest sum that JumpWithOffset's last clause covers. -/
theorem witness_JumpWithOffset : 4094 < (0xFFF : Addr).toNat + ((regs []).reg 0).toNat := by decide

/-- CallPushesReturnAddress, CallThenReturn: an entry free with 0 and with 15 in use; none with 16. -/
theorem witness_CallPushesReturnAddress :
    State.reset.sp.val < 16 ∧ (State.reset.setStack State.reset.stack 15).sp.val < 16 ∧
    (State.reset.setStack State.reset.stack 16).sp.val = 16 := by decide

/-- CallThenReturn: the call it starts from answers, and the state it left, all 16 entries in use, is one to return
from. -/
theorem witness_CallThenReturn :
    let s := State.reset.setStack State.reset.stack 15
    exec (.call 0x300) s = .next (nextOf (exec (.call 0x300) s)) ∧ (nextOf (exec (.call 0x300) s)).sp = 16 := ⟨rfl, by decide⟩

/-- ReturnPopsNewestEntry: 1 and 16 entries in use, and none. -/
theorem witness_ReturnPopsNewestEntry :
    (State.reset.setStack State.reset.stack 1).sp.val = (0 : Fin 16).val + 1 ∧
    (State.reset.setStack State.reset.stack 16).sp.val = (15 : Fin 16).val + 1 ∧ State.reset.sp.val = 0 := by decide

/-- FontGlyphAddress: the largest product below 65536, scale 257 times 255. -/
theorem witness_FontGlyphAddress :
    let s := { regs [(3, 255)] with cfg := { Config.default with glyphScale := 257 } }
    s.cfg.glyphScale * (s.reg 3).toNat = 65535 := by decide

/-- BcdDigitsStored: the top of memory, the lowest address of the policy fault, and address 0 with the policy allow. -/
theorem witness_BcdDigitsStored :
    (regsAt 4093 []).memCanonical ∧ (regsAt 4093 []).i.toNat + 2 ≤ 4095 ∧ 0x200 ≤ (regsAt 4093 []).i.toNat ∧
    0x200 ≤ (regsAt 0x200 []).i.toNat ∧ (allowing (regsAt 0 [])).cfg.lowmemWrite = .allow :=
  ⟨witness_memCanonical _ rfl, by decide, by decide, by decide, rfl⟩

/-- RegisterDump, RegisterLoad, DumpThenLoadRoundTrip: sixteen registers at the last place they fit, one at 4095. -/
theorem witness_RegisterDump :
    (regsAt 4080 []).memCanonical ∧ (regsAt 4080 []).i.toNat + (0xF : Nibble).toNat ≤ 4095 ∧
    (regsAt 4095 []).i.toNat + (0 : Nibble).toNat ≤ 4095 ∧ 0x200 ≤ (regsAt 4080 []).i.toNat :=
  ⟨witness_memCanonical _ rfl, by decide, by decide, by decide⟩

/-- AccessOutsideRangeFaults: each range one too long, and the highest reserved address. -/
theorem witness_AccessOutsideRangeFaults :
    4095 < (regsAt 4094 []).i.toNat + 2 ∧ 4095 < (regsAt 4095 []).i.toNat + (1 : Nibble).toNat ∧
    4095 < (regsAt 4096 []).i.toNat + (0 : Nibble).toNat ∧ (1 : Nibble) ≠ 0 ∧
    4096 < (regsAt 4096 []).i.toNat + (1 : Nibble).toNat ∧ (regsAt 0x1FF []).i.toNat < 0x200 ∧
    (regsAt 0x1FF []).cfg.lowmemWrite = .fault := by decide

/-- DrawIsXorOfSprite: the last place fifteen rows fit, and no row anywhere. -/
theorem witness_DrawIsXorOfSprite :
    (regsAt 4081 []).i.toNat + (0xF : Nibble).toNat ≤ 4096 ∧ (0 : Nibble) = 0 := by decide

theorem witness_DoubleDrawRestoresDisplay :
    (0xE : Nibble) ≠ 0xF ∧ (0 : Nibble) ≠ 0xF ∧ (regsAt 4081 []).i.toNat + (0xF : Nibble).toNat ≤ 4096 := by decide

/-- DrawIsXorOfSprite's collision clause: a set cell under a set sprite bit. -/
theorem witness_DrawIsXorOfSprite_collision :
    let s := (regsAt 0 []).setDisp (Display.blank.toggle 0 0)
    s.disp.cell 0 0 = true ∧ spriteBit s (s.reg 1) (s.reg 2) 5 0 0 = true := by decide

/-- DrawIsXorOfSprite's clause without a collision: a blank display. -/
theorem witness_DrawIsXorOfSprite_clear (r : Fin 32) (c : Fin 64) :
    State.reset.disp.cell r c = true → spriteBit State.reset 0 0 5 r c = false := by
  intro h
  rw [show State.reset.disp = Display.blank from rfl, Display.cell_blank] at h
  cases h

/-- KeySkips: the largest key, and the smallest value that is none. -/
theorem witness_KeySkips :
    ((regs [(5, 15)]).reg 5).toNat = (0xF : Nibble).toNat ∧ 15 < ((regs [(5, 16)]).reg 5).toNat := by decide

/-- FaultEntryIsPrecise, FaultCausesAreTheTable: each cause is raised by some instruction. -/
theorem witness_FaultCausesAreTheTable :
    State.reset.faulted = false ∧
    (nextOf (exec (.ldB 0) (regsAt 4094 []))).fault.cause = some .addressOutOfRange ∧
    (nextOf (exec (.call 0x300) (State.reset.setStack State.reset.stack 16))).fault.cause = some .stackOverflow ∧
    (nextOf (exec (.ret 0) State.reset)).fault.cause = some .stackUnderflow ∧
    (nextOf (exec (.ldMemVx 0) (regsAt 0x1FF []))).fault.cause = some .reservedWrite ∧
    (nextOf (exec (.skp 5) (regs [(5, 16)]))).fault.cause = some .keyOutOfRange := by decide

/-- FaultEntryIsPrecise: a return with no entry in use answers a faulted next state. -/
theorem witness_FaultEntryIsPrecise :
    exec (.ret 0) State.reset = .next (nextOf (exec (.ret 0) State.reset)) ∧
    (nextOf (exec (.ret 0) State.reset)).faulted = true := ⟨rfl, by decide⟩

theorem witness_FetchAboveMemoryFaults : 4094 < (State.reset.setPc 4095).pc.toNat := by decide

theorem witness_FaultedCoreWaitsForReset : (after 0x00EE .reset).faulted = true := by decide

/-- StepRunsDecodedInstruction's hypotheses, with steps left after this one and with none. -/
theorem witness_StepRunsDecodedInstruction :
    let s := State.reset.withFetchWord 16 0x6A2F
    s.aboutToFetch = true ∧ (s.setBurst 1).aboutToFetch = true ∧ s.pc.toNat ≤ 4094 ∧
    decode [s.readByte s.pc.toNat, s.readByte (s.pc.toNat + 1)] = .ok (.ldImm 0xA 0x2F, []) ∧
    (nextOf (exec (.ldImm 0xA 0x2F) { s with pc := s.pc + 2 })).faulted = false ∧ 1 < s.cfg.clockSpeed := by decide

/-- StepRunsDecodedInstruction's faulting clause. -/
theorem witness_StepRunsDecodedInstruction_fault :
    let s := State.reset.withFetchWord 16 0x00EE
    s.aboutToFetch = true ∧ decode [s.readByte s.pc.toNat, s.readByte (s.pc.toNat + 1)] = .ok (.ret 0, []) ∧
    (nextOf (exec (.ret 0) { s with pc := s.pc + 2 })).faulted = true := by decide

theorem witness_UnrecognizedOpcodeIsAnEvent :
    State.reset.fetch = some 0x0000 ∧ decodeWord 0x0000 = .error (.unrecognized 0x0000) := by decide

theorem witness_PlacedWordIsFetchedNext : State.reset.memCanonical ∧ (State.reset.setPc 4094).memCanonical :=
  ⟨witness_memCanonical _ rfl, witness_memCanonical _ rfl⟩

/-- BurstOfStepsReachesTick, PendingCommandsAreAtomic, WaitForKeyUntilPress: an idle state whose TICK does not fault. -/
theorem witness_BurstOfStepsReachesTick :
    let s := State.reset.placeWord 0x1200
    s.burst = 0 ∧ s.inbox = [] ∧ s.faulted = false ∧ s.paused = false ∧ s.cfg.clockSpeed ≠ 0 ∧
    (nextOf (tick s)).faulted = false ∧ (nextOf (tick s)).pc = 0x200 := by decide

/-- BurstOfStepsReachesTick: an idle state whose TICK faults at once. -/
theorem witness_BurstOfStepsReachesTick_fault :
    let s := State.reset.placeWord 0x00EE
    s.burst = 0 ∧ s.inbox = [] ∧ s.faulted = false ∧ s.paused = false ∧ s.cfg.clockSpeed ≠ 0 ∧
    (nextOf (tick s)).faulted = true := by decide

theorem witness_PendingCommandsAreAtomic :
    let s := { State.reset with inbox := [.setKey 3 true, .tick] }
    s.burst = 0 ∧ s.inbox = .setKey 3 true :: [.tick] ∧
    (nextOf (command (.setKey 3 true) { s with inbox := [.tick] })).keyDown 3 = true := by decide

/-- BurstOfStepsReachesTick at CLOCK_SPEED = 0: the TICK is the timer step. -/
theorem witness_BurstOfStepsReachesTick_speed0 :
    let s := { State.reset.setDt 5 with cfg := { Config.default with clockSpeed := 0 } }
    s.burst = 0 ∧ s.inbox = [] ∧ s.faulted = false ∧ s.paused = false ∧ s.cfg.clockSpeed = 0 ∧
    (nextOf (tick s)).faulted = false ∧ (nextOf (tick s)).dt = 4 := by decide

/-- PendingCommandsAreAtomic: a pending TICK that runs its burst, with a command behind it. -/
theorem witness_PendingCommandsAreAtomic_tick :
    let s := { State.reset.placeWord 0x1200 with inbox := [.tick, .reset] }
    s.burst = 0 ∧ s.inbox = .tick :: [.reset] ∧
    command .tick { s with inbox := [.reset] } = .next (nextOf (command .tick { s with inbox := [.reset] })) ∧
    (nextOf (command .tick { s with inbox := [.reset] })).faulted = false := ⟨rfl, rfl, rfl, by decide⟩

theorem witness_EarlyExitEqualsFullBurst :
    let s := State.reset.placeWord 0xF30A
    s.paused = false ∧ (nextOf (runBurst 3 s)).paused = true := by decide

/-- WaitForKeyUntilPress, KeyPressCompletesWait: a machine at a wait instruction, and one that waits there. -/
theorem witness_WaitForKeyUntilPress :
    let s := State.reset.placeWord 0xF30A
    s.faulted = false ∧ s.paused = false ∧ s.cfg.clockSpeed ≠ 0 ∧ s.fetch = some (encode (.ldVxK 3)) ∧
    (s.setWait true).waiting = true ∧ (s.setWait true).fetch = some (encode (.ldVxK 3)) := by decide

/-- KeyLatch: not waiting, and waiting; Vx = 15 a key; an instruction that is no key skip and answers. -/
theorem witness_KeyLatch :
    State.reset.faulted = false ∧ State.reset.waiting = false ∧ (State.reset.setWait true).waiting = true ∧
    ((regs [(5, 15)]).reg 5).toNat = (0xF : Nibble).toNat ∧
    (∀ x, Instr.ldVxK 3 ≠ .skp x ∧ Instr.ldVxK 3 ≠ .sknp x) ∧
    (nextOf (exec (.ldVxK 3) State.reset)).waiting = true := by decide

/-- KeyLatch's TICK clause: a TICK of a waiting machine with a key held, and of one that is not waiting. -/
theorem witness_KeyLatch_tick :
    let s := (State.reset.setWait true).setKey 7 true
    tick s = .next (nextOf (tick s)) ∧ s.waiting = true ∧ s.keyDown 7 = true ∧
    tick State.reset = .next (nextOf (tick State.reset)) := ⟨rfl, by decide, by decide, rfl⟩

/-- KeyWaitIsTheOneLowActivityState: wait-for-key changes both flags, and the state it leaves waits. -/
theorem witness_KeyWaitIsTheOneLowActivityState :
    let t := nextOf (exec (.ldVxK 3) State.reset)
    exec (.ldVxK 3) State.reset = .next t ∧ t.paused ≠ State.reset.paused ∧
    t.faulted = false ∧ t.paused = true ∧ t.waiting = true := ⟨rfl, by decide⟩

theorem witness_LoadPlacesProgram :
    (List.replicate 3584 (0 : Byte)).length ≤ 3584 ∧ 3584 < (List.replicate 3585 (0 : Byte)).length := by
  simp only [List.length_replicate]
  decide

/-- ResetValues: the first and the last address above the font. -/
theorem witness_ResetValues : 80 ≤ 80 ∧ 80 ≤ 4095 ∧ 4095 < 4096 := by decide

/-- StepKeepsInvariant, LowMemoryStaysIntact, ParametersFixedAndLogGrows: the reset state, which steps. -/
theorem witness_StepKeepsInvariant :
    State.reset.Inv ∧ State.reset.cfg.lowmemWrite = .fault ∧ State.reset.lowMemoryIntact ∧
    step State.reset = .next (nextOf (step State.reset)) :=
  ⟨⟨witness_memCanonical _ rfl, ⟨rfl, fun h => by cases h⟩, ⟨fun _ => rfl, fun h => by cases h⟩,
    ⟨by decide, by decide⟩, Nat.zero_le _⟩,
   rfl, fun _ _ => rfl, rfl⟩

theorem witness_OnlyNamedInstructionsWriteState :
    let s := regsAt 0x300 [(5, 0x9C)]
    exec (.ldB 5) s = .next (nextOf (exec (.ldB 5) s)) ∧ (nextOf (exec (.ldB 5) s)).mem ≠ s.mem := ⟨rfl, by decide⟩

theorem witness_CanonicalMemoriesAreEqualData :
    Memory.wf Config.default.resetByte [(0x000, 0), (0xFFF, 1)] ∧
    Memory.wf Config.default.resetByte (Memory.write Config.default.resetByte [(0x000, 0)] 0xFFF 1) := by decide

end Sys2Proof.Tests
end

section
/-!
PROOFS. A pending host command delivered by machine steps reaches its atomic definition (spec/00_scope.md R8,
spec/20_memory.md R76).

The atomic TICK runs its burst with the counter `burst` at 0, the machine with the steps left in it. So the argument
rests on one fact: no instruction reads or writes `burst` (`exec_setBurst`).
-/

namespace Sys2Proof.Machine

/-! ## Instructions commute with a write of the burst counter -/

/-- `f` applied to the next state an outcome answers. -/
def mapNext (f : State → State) : Result → Result
  | .next t => .next (f t)
  | .fault r => .fault r
  | .refused r => .refused r

/-- `burst` set to `n` in the state an outcome answers. -/
abbrev withBurst (n : Nat) : Result → Result := mapNext fun t => t.setBurst n

variable (s : State) (n : Nat)

@[simp] theorem State.setBurst_setBurst (m : Nat) : (s.setBurst m).setBurst n = s.setBurst n := rfl

theorem State.setBurst_of_burst_eq {s : State} {n : Nat} (h : s.burst = n) : s.setBurst n = s := by
  subst h
  rfl

theorem State.skipIf_setBurst (c : Bool) : (s.setBurst n).skipIf c = (s.skipIf c).setBurst n := by
  cases c <;> rfl

theorem State.push_setBurst (w : Word) : (s.setBurst n).push w = (s.push w).map fun t => t.setBurst n := by
  by_cases h : s.sp.val < 16
  · rw [State.push_some s h, State.push_some (s.setBurst n) h]
    rfl
  · have h16 : s.sp = 16 := by omega
    rw [State.push_none s h16, State.push_none (s.setBurst n) h16]
    rfl

theorem State.pop_setBurst : (s.setBurst n).pop = s.pop.map fun p => (p.1, p.2.setBurst n) := by
  by_cases h : 0 < s.sp.val
  · have h' : s.sp.val - 1 < 16 := by omega
    rw [State.pop_some s h h', State.pop_some (s.setBurst n) h h']
    rfl
  · have h0 : s.sp = 0 := by omega
    rw [State.pop_none s h0, State.pop_none (s.setBurst n) h0]
    rfl

theorem guarded_setBurst (t : Option Trap) (op : Word) {e e' : State} (he : e' = e.setBurst n) :
    guarded t op (s.setBurst n) e' = withBurst n (guarded t op s e) := by
  subst he
  cases t <;> rfl

theorem execRet_setBurst (ign : Nibble) : execRet ign (s.setBurst n) = withBurst n (execRet ign s) := by
  unfold execRet
  rw [State.pop_setBurst]
  cases s.pop <;> rfl

theorem execCall_setBurst (nnn : Addr) : execCall nnn (s.setBurst n) = withBurst n (execCall nnn s) := by
  unfold execCall
  rw [State.push_setBurst, State.setBurst_pc]
  cases s.push s.pc <;> rfl

/-- No instruction reads or writes the steps left in a TICK. The arms named here branch on the state (a stack entry, a
skip's condition, an address check); every other is one composition of State's updates. -/
theorem exec_setBurst (i : Instr) : exec i (s.setBurst n) = withBurst n (exec i s) := by
  cases i with
  | ret ign => exact execRet_setBurst s n ign
  | call nnn => exact execCall_setBurst s n nnn
  | seImm x kk => exact congrArg Host.Outcome.next (State.skipIf_setBurst s n _)
  | sneImm x kk => exact congrArg Host.Outcome.next (State.skipIf_setBurst s n _)
  | seReg x y ign => exact congrArg Host.Outcome.next (State.skipIf_setBurst s n _)
  | sneReg x y ign => exact congrArg Host.Outcome.next (State.skipIf_setBurst s n _)
  | skp x => exact guarded_setBurst s n _ _ (State.skipIf_setBurst s n _)
  | sknp x => exact guarded_setBurst s n _ _ (State.skipIf_setBurst s n _)
  | drw x y h => exact guarded_setBurst s n _ _ rfl
  | ldB x => exact guarded_setBurst s n _ _ rfl
  | ldMemVx x => exact guarded_setBurst s n _ _ rfl
  | ldVxMem x => exact guarded_setBurst s n _ _ rfl
  | _ => rfl

theorem instrStep_setBurst : instrStep (s.setBurst n) = withBurst n (instrStep s) := by
  unfold instrStep
  rw [State.setBurst_fetch]
  cases s.fetch with
  | none => rfl
  | some op =>
    cases hd : decodeWord op with
    | ok i =>
      simp only [hd]
      exact exec_setBurst s.advance n i
    | error e => simp only [hd]; rfl

theorem instrStep_burst {s t : State} (h : instrStep s = .next t) : t.burst = s.burst := by
  have hb : t = t.setBurst s.burst := by
    have hs := instrStep_setBurst s s.burst
    rw [State.setBurst_of_burst_eq rfl, h] at hs
    exact Host.Outcome.next.inj hs
  rw [hb, State.setBurst_burst]

/-! ## One machine step -/

/-- The burst counter of the state a STEP ends in does not depend on the one it began with. -/
theorem endOfStep_setBurst (left : Nat) : endOfStep left (s.setBurst n) = endOfStep left s := by
  unfold endOfStep
  rw [State.setBurst_faulted]
  split
  · rfl
  · split <;> rfl

theorem burstStep_setBurst (left : Nat) : burstStep left (s.setBurst n) = burstStep left s := by
  unfold burstStep
  rw [instrStep_setBurst]
  cases instrStep s with
  | next t => exact congrArg Host.Outcome.next (endOfStep_setBurst t n left)
  | fault r => rfl
  | refused r => rfl

/-! What a STEP of the machine answers from a state between TICKs (`endOfStep`, case by case). -/

theorem burstStep_faulted {s t : State} (hb : s.burst = 0) (h : instrStep s = .next t) (hf : t.faulted = true)
    (left : Nat) : burstStep left s = .next t := by
  simp only [burstStep, h, endOfStep_faulted hf]
  rw [State.setBurst_of_burst_eq ((instrStep_burst h).trans hb)]

theorem burstStep_last {s t : State} (hb : s.burst = 0) (h : instrStep s = .next t) (hf : t.faulted = false) :
    burstStep 1 s = .next (timerStep t) := by
  have ht : (timerStep t).burst = 0 := (instrStep_burst h).trans hb
  simp only [burstStep, h, endOfStep_last hf]
  rw [State.setBurst_of_burst_eq ht]

theorem burstStep_more {s t : State} (h : instrStep s = .next t) (hf : t.faulted = false) (left : Nat) :
    burstStep (left + 2) s = .next (t.setBurst (left + 1)) := by
  simp only [burstStep, h, endOfStep_more hf]

theorem step_of_burst {s : State} {left : Nat} (hf : s.faulted = false) (hl : left ≠ 0) :
    step (s.setBurst left) = burstStep left s := by
  have hin : (s.setBurst left).inTick = true := by simp [State.inTick, hf, hl]
  rw [step, cycle, if_pos hin, State.setBurst_burst, burstStep_setBurst]

theorem step_of_inbox {s : State} {c : Command} {cs : List Command} (hb : s.burst = 0) (hi : s.inbox = c :: cs) :
    step s = deliver c (s.setInbox cs) := by
  have hout : ¬ s.inTick = true := by simp [State.inTick, hb]
  rw [step, cycle, if_neg hout, hi]

/-! ## A burst and a TICK by machine steps -/

/-- A burst that answers begins with a STEP that does; what is left of it is the fault, the timer step or the burst one
shorter. -/
theorem runBurst_succ_next {n : Nat} {s t : State} (h : runBurst (n + 1) s = .next t) :
    ∃ m, instrStep s = .next m ∧ ((m.faulted = true ∧ t = m) ∨ (m.faulted = false ∧ runBurst n m = .next t)) := by
  rw [runBurst] at h
  cases hm : instrStep s with
  | next m =>
    simp only [hm] at h
    refine ⟨m, rfl, ?_⟩
    cases hf : m.faulted with
    | true =>
      rw [if_pos hf] at h
      exact .inl ⟨rfl, (Host.Outcome.next.inj h).symm⟩
    | false =>
      rw [if_neg (by simp [hf])] at h
      exact .inr ⟨rfl, h⟩
  | fault r => simp [hm] at h
  | refused r => simp [hm] at h

/-- A burst of `n + 1` steps (R121, R126) is its first STEP and at most `n` machine steps more: exactly `n` when it does
not fault. -/
theorem burstStep_runsTo_of_runBurst (n : Nat) : ∀ {s t : State}, s.burst = 0 → runBurst (n + 1) s = .next t →
    ∃ m k, burstStep (n + 1) s = .next m ∧ k ≤ n ∧ (t.faulted = false → k = n) ∧ RunsTo k m t := by
  induction n with
  | zero =>
    intro s t hb h
    obtain ⟨m, hm, ⟨hf, rfl⟩ | ⟨hf, ht⟩⟩ := runBurst_succ_next h
    · exact ⟨t, 0, burstStep_faulted hb hm hf 1, le_rfl, fun _ => rfl, rfl⟩
    · exact ⟨timerStep m, 0, burstStep_last hb hm hf, le_rfl, fun _ => rfl, Host.Outcome.next.inj ht⟩
  | succ n ih =>
    intro s t hb h
    obtain ⟨m, hm, ⟨hf, rfl⟩ | ⟨hf, ht⟩⟩ := runBurst_succ_next h
    · exact ⟨t, 0, burstStep_faulted hb hm hf (n + 2), Nat.zero_le _, fun hf' => by simp [hf] at hf', rfl⟩
    · obtain ⟨m', k, hm', hk, hkn, hrun⟩ := ih ((instrStep_burst hm).trans hb) ht
      have hstep : step (m.setBurst (n + 1)) = .next m' := (step_of_burst hf n.succ_ne_zero).trans hm'
      exact ⟨m.setBurst (n + 1), k + 1, burstStep_more hm hf n, Nat.succ_le_succ hk, fun hf' => by rw [hkn hf'],
        m', hstep, hrun⟩

/-- TICK (R120) is its first machine step and fewer than `max 1 CLOCK_SPEED` more. -/
theorem beginTick_runsTo_of_tick {s t : State} (hb : s.burst = 0) (h : tick s = .next t) :
    ∃ m k, beginTick s = .next m ∧ k + 1 ≤ max 1 s.cfg.clockSpeed ∧ RunsTo k m t := by
  unfold tick at h
  unfold beginTick
  by_cases hidle : (s.faulted || s.paused) = true
  · rw [if_pos hidle] at h ⊢
    exact ⟨s, 0, rfl, le_max_left .., Host.Outcome.next.inj h⟩
  · rw [if_neg hidle] at h ⊢
    cases hc : s.cfg.clockSpeed with
    | zero =>
      rw [hc] at h
      exact ⟨timerStep s, 0, rfl, le_max_left .., Host.Outcome.next.inj h⟩
    | succ n =>
      rw [hc] at h
      obtain ⟨m, k, hm, hk, -, hrun⟩ := burstStep_runsTo_of_runBurst n hb h
      exact ⟨m, k, hm, le_max_of_le_right (Nat.succ_le_succ hk), hrun⟩

/-- A host command (R8) is its first machine step and, for a TICK alone, the rest of its burst. -/
theorem deliver_runsTo_of_command {c : Command} {s t : State} (hb : s.burst = 0) (h : command c s = .next t) :
    ∃ m k, deliver c s = .next m ∧ k + 1 ≤ max 1 s.cfg.clockSpeed ∧ RunsTo k m t := by
  cases c with
  | tick => exact beginTick_runsTo_of_tick hb h
  | reset => exact ⟨t, 0, h, le_max_left .., rfl⟩
  | load program => exact ⟨t, 0, h, le_max_left .., rfl⟩
  | setKey id pressed => exact ⟨t, 0, h, le_max_left .., rfl⟩

/-- Settles O46: the first machine step delivers the command, and the rest of a TICK's burst follows by induction on
the steps left. -/
theorem pendingCommandsAreAtomic : Obligations.PendingCommandsAreAtomic := by
  intro c cs s t hb hi h
  obtain ⟨m, k, hm, hk, hrun⟩ := deliver_runsTo_of_command (s := s.setInbox cs) hb h
  exact ⟨k + 1, Nat.succ_pos k, hk, m, (step_of_inbox hb hi).trans hm, hrun⟩

end Sys2Proof.Machine
end

section
/-!
PROOFS. What an instruction can answer, said once, and which piece of state it then has written (spec/10_state.md).
-/

namespace Sys2Proof.Machine

/-- The instructions that write a general register (R20). -/
def writesRegs (i : Instr) : Prop :=
  (∃ x kk, i = .ldImm x kk ∨ i = .addImm x kk ∨ i = .rnd x kk) ∨
  (∃ x y, i = .ldReg x y ∨ i = .orReg x y ∨ i = .andReg x y ∨ i = .xorReg x y ∨ i = .addReg x y ∨
    i = .subReg x y ∨ i = .shr x y ∨ i = .subn x y ∨ i = .shl x y) ∨
  (∃ x y n, i = .drw x y n) ∨ ∃ x, i = .ldVxDt x ∨ i = .ldVxMem x

/-- Every state an instruction `i`, run from `s`, can answer (`exec_answers`), by the piece of state it writes. Written
values are left open where no invariant of the core speaks of them. -/
inductive Answers (s : State) : Instr → State → Prop
  | raise (i : Instr) (u : Trap) : Answers s i (s.raise u (encode i))
  | skip (i : Instr) (c : Bool) : Answers s i (s.setPc (if c then s.pc + 2 else s.pc))
  | jump (nnn : Addr) : Answers s (.jp nnn) (s.setPc (zextAddr nnn))
  | jumpV0 (nnn : Addr) : Answers s (.jpV0 nnn) (s.setPc (zextAddr nnn + zextByte (s.reg 0)))
  | call (nnn : Addr) (k : Nat) (hk : k < 16) (sp : Fin 17) :
    Answers s (.call nnn) ((s.setStack (s.stack.set k s.pc hk) sp).setPc (zextAddr nnn))
  | ret (ign : Nibble) (k : Fin 16) (sp : Fin 17) :
    Answers s (.ret ign) ((s.setStack s.stack sp).setPc s.stack[k])
  | regs (i : Instr) (hi : writesRegs i) (v : Vector Byte 16) (n : Nat) :
    Answers s i { s with v := v, rndPos := n }
  | index (i : Instr) (hi : (∃ nnn, i = .ldI nnn) ∨ ∃ x, i = .addI x ∨ i = .ldF x) (w : Word) :
    Answers s i (s.setI w)
  | delay (x : Nibble) : Answers s (.ldDtVx x) (s.setDt (s.reg x))
  | sound (x : Nibble) : Answers s (.ldStVx x) (s.setSt (s.reg x))
  | wait (x : Nibble) : Answers s (.ldVxK x) ((s.setWait true).setPc s.instrAddr)
  | clear (ign : Nibble) : Answers s (.cls ign) (s.setDisp Display.blank)
  | draw (x y n : Nibble) (d : Display) (b : Byte) : Answers s (.drw x y n) ((s.setDisp d).setReg flagReg b)
  | store (i : Instr) (hi : ∃ x, i = .ldB x ∨ i = .ldMemVx x) (bytes : List Byte)
    (hb : s.base + bytes.length ≤ 4096) : Answers s i (s.storeBytes s.base bytes)

variable {i : Instr} {s t : State}

/-- A guarded instruction answers its fault or, past its checks, its effect. -/
theorem answers_of_guarded {u : Option Trap} {e : State} (h : guarded u (encode i) s e = .next t)
    (he : u = none → Answers s i e) : Answers s i t := by
  rcases guarded_cases s u (encode i) e with ⟨hu, hg⟩ | ⟨u', -, hg⟩
  · cases hg.symm.trans h
    exact he hu
  · cases hg.symm.trans h
    exact .raise i u'

theorem answers_of_regs {v : Vector Byte 16} {n : Nat} (hi : writesRegs i)
    (h : Host.Outcome.next { s with v := v, rndPos := n } = (.next t : Result)) : Answers s i t := by
  cases h
  exact .regs i hi v n

theorem answers_skipIf (i : Instr) (s : State) (c : Bool) : Answers s i (s.skipIf c) := by
  rw [State.skipIf_eq]
  exact .skip i c

theorem answers_of_skipIf {c : Bool} (h : Host.Outcome.next (s.skipIf c) = (.next t : Result)) : Answers s i t := by
  cases h
  exact answers_skipIf i s c

theorem execRet_answers {ign : Nibble} (h : execRet ign s = .next t) : Answers s (.ret ign) t := by
  unfold execRet at h
  by_cases hsp : 0 < s.sp.val
  · have hlt : s.sp.val - 1 < 16 := by omega
    rw [State.pop_some s hsp hlt] at h
    cases h
    exact .ret ign ⟨s.sp.val - 1, hlt⟩ _
  · rw [State.pop_none s (by omega)] at h
    cases h
    exact .raise (.ret ign) _

theorem execCall_answers {nnn : Addr} (h : execCall nnn s = .next t) : Answers s (.call nnn) t := by
  unfold execCall at h
  by_cases hsp : s.sp.val < 16
  · rw [State.push_some s hsp] at h
    cases h
    exact .call nnn _ hsp _
  · rw [State.push_none s (by omega)] at h
    cases h
    exact .raise (.call nnn) _

/-- Past the check of a store, every address of it is inside memory (R63, R66). -/
theorem store_le_of_writeTrap {bytes : List Byte} {len : Nat} (hlen : bytes.length = len) (h0 : len ≠ 0)
    (h : writeTrap s.cfg s.base len = none) : s.base + bytes.length ≤ 4096 := by
  obtain ⟨hrange, -⟩ := writeTrap_none.mp h
  omega

/-- What an instruction can do, arm by arm; the arms not named write one register, or one and VF, and never fault. -/
theorem exec_answers (h : exec i s = .next t) : Answers s i t := by
  cases i with
  | cls ign => cases h; exact .clear ign
  | ret ign => exact execRet_answers h
  | jp nnn => cases h; exact .jump nnn
  | call nnn => exact execCall_answers h
  | jpV0 nnn => cases h; exact .jumpV0 nnn
  | seImm x kk => exact answers_of_skipIf h
  | sneImm x kk => exact answers_of_skipIf h
  | seReg x y ign => exact answers_of_skipIf h
  | sneReg x y ign => exact answers_of_skipIf h
  | skp x => exact answers_of_guarded h fun _ => answers_skipIf _ s _
  | sknp x => exact answers_of_guarded h fun _ => answers_skipIf _ s _
  | ldI nnn => cases h; exact .index _ (by simp) _
  | addI x => cases h; exact .index _ (by simp) _
  | ldF x => cases h; exact .index _ (by simp) _
  | ldDtVx x => cases h; exact .delay x
  | ldStVx x => cases h; exact .sound x
  | ldVxK x => cases h; exact .wait x
  | drw x y n => exact answers_of_guarded h fun _ => .draw x y n _ _
  | ldB x =>
    refine answers_of_guarded h fun hu => .store _ (by simp) _ ?_
    exact store_le_of_writeTrap (bcdDigits_length _) (by decide) hu
  | ldMemVx x =>
    refine answers_of_guarded h fun hu => .store _ (by simp) _ ?_
    exact store_le_of_writeTrap (s.regRun_length x) (Nat.succ_ne_zero _) hu
  | ldVxMem x => exact answers_of_guarded h fun _ => .regs _ (by simp [writesRegs]) _ s.rndPos
  | _ => exact answers_of_regs (by simp [writesRegs]) h

/-- Settles O59: each way to answer writes one group of fields, and names the instructions that answer so. -/
theorem onlyNamedInstructionsWriteState : Obligations.OnlyNamedInstructionsWriteState := by
  intro i s t h
  cases exec_answers h with
  | regs i hi v n =>
    unfold writesRegs at hi
    simp [hi]
  | index i hi w => simp [hi]
  | store i hi bytes hb => simp [hi]
  | _ => simp

end Sys2Proof.Machine
end

section
/-!
PROOFS. What a STEP and a host command can answer, and the induction principle for a property that every machine step
keeps (spec/40_cycle.md R120 to R126, spec/00_scope.md R8).
-/

namespace Sys2Proof.Machine

/-! ## A STEP and its end -/

/-- A STEP is a fetch fault (R123), an unrecognized opcode (R125) or an instruction run from the state after fetch
(R122). -/
theorem instrStep_cases {s t : State} (h : instrStep s = .next t) :
    (s.fetch = none ∧ t = s.raiseFetch) ∨
    (∃ op e, s.fetch = some op ∧ decodeWord op = .error e ∧ t = s.advance.unrecognized op) ∨
    (∃ op i, s.fetch = some op ∧ decodeWord op = .ok i ∧ exec i s.advance = .next t) := by
  unfold instrStep at h
  cases hop : s.fetch with
  | none =>
    simp only [hop] at h
    exact .inl ⟨rfl, (Host.Outcome.next.inj h).symm⟩
  | some op =>
    simp only [hop] at h
    cases hd : decodeWord op with
    | error e =>
      simp only [hd] at h
      exact .inr (.inl ⟨op, e, rfl, hd, (Host.Outcome.next.inj h).symm⟩)
    | ok i =>
      simp only [hd] at h
      exact .inr (.inr ⟨op, i, rfl, hd, h⟩)

theorem burstStep_next {left : Nat} {s t : State} (h : burstStep left s = .next t) :
    ∃ m, instrStep s = .next m ∧ t = endOfStep left m := by
  unfold burstStep at h
  cases hm : instrStep s with
  | next m =>
    simp only [hm] at h
    exact ⟨m, rfl, (Host.Outcome.next.inj h).symm⟩
  | fault r => simp [hm] at h
  | refused r => simp [hm] at h

/-- After a STEP: the TICK ended by a fault (R232), its last step (R126), or one step fewer left (R121). -/
theorem endOfStep_cases (left : Nat) (t : State) :
    (t.faulted = true ∧ endOfStep left t = t.setBurst 0) ∨
    (t.faulted = false ∧ endOfStep left t = (timerStep t).setBurst 0) ∨
    (t.faulted = false ∧ endOfStep left t = t.setBurst (left - 1)) := by
  cases hf : t.faulted with
  | true => exact .inl ⟨rfl, endOfStep_faulted hf⟩
  | false =>
    by_cases hl : left ≤ 1
    · exact .inr (.inl ⟨rfl, by simp [endOfStep, hf, hl]⟩)
    · exact .inr (.inr ⟨rfl, by simp [endOfStep, hf, hl]⟩)

/-! ## SET_KEY and LOAD (R240, R272) -/

section
variable {s : State} (id : Nibble)

theorem cmdSetKey_of_faulted (pressed : Bool) (h : s.faulted = true) : cmdSetKey id pressed s = s := by
  simp [cmdSetKey, h]

theorem cmdSetKey_of_no_wake {pressed : Bool} (hf : s.faulted = false) (h : s.waiting = false ∨ pressed = false) :
    cmdSetKey id pressed s = s.setKey id pressed := by
  rcases h with h | h <;> simp [cmdSetKey, hf, h]

theorem cmdSetKey_press_of_waiting (hf : s.faulted = false) (hw : s.waiting = true) :
    cmdSetKey id true s = completeWait id (s.setKey id true) := by
  simp [cmdSetKey, hf, hw]

theorem cmdSetKey_cases (pressed : Bool) (s : State) :
    cmdSetKey id pressed s = s ∨ cmdSetKey id pressed s = s.setKey id pressed ∨
    (s.faulted = false ∧ s.waiting = true ∧ cmdSetKey id pressed s = completeWait id (s.setKey id pressed)) := by
  cases hf : s.faulted with
  | true => exact .inl (cmdSetKey_of_faulted id pressed hf)
  | false =>
    by_cases h : s.waiting = false ∨ pressed = false
    · exact .inr (.inl (cmdSetKey_of_no_wake id hf h))
    · obtain ⟨hw, rfl⟩ : s.waiting = true ∧ pressed = true := by simpa using h
      exact .inr (.inr ⟨rfl, hw, cmdSetKey_press_of_waiting id hf hw⟩)

end

theorem cmdLoad_cases (program : List Byte) (s : State) :
    (program.length ≤ 3584 ∧
      cmdLoad program s = ((cmdReset s).storeBytes Config.programOrigin program).setLoadStatus .ok) ∨
    cmdLoad program s = (cmdReset s).setLoadStatus .loadOverflow := by
  unfold cmdLoad
  split
  · rename_i hfit
    exact .inl ⟨by simpa [programFits] using hfit, rfl⟩
  · exact .inr rfl

/-! ## A property that every machine step keeps -/

/-- `P` survives each piece a machine step is made of: the delivery of a host command (R8), the timer step (R126) and a
STEP of a TICK, the one in progress or a new one (R121). -/
structure KeptByStep (P : State → Prop) : Prop where
  setInbox : ∀ s cs, P s → P (s.setInbox cs)
  reset : ∀ s, P s → P (cmdReset s)
  load : ∀ s program, P s → P (cmdLoad program s)
  setKey : ∀ s id pressed, P s → P (cmdSetKey id pressed s)
  timer : ∀ s, P s → P (timerStep s)
  burst : ∀ s t left, P s → s.faulted = false → left = s.burst ∨ left = s.cfg.clockSpeed →
    burstStep left s = .next t → P t

section
variable {P : State → Prop} {s t : State} (hP : KeptByStep P)
include hP

theorem KeptByStep.of_beginTick (h : P s) (ht : beginTick s = .next t) : P t := by
  unfold beginTick at ht
  split at ht
  · cases ht
    exact h
  · rename_i hidle
    obtain ⟨hf, -⟩ : s.faulted = false ∧ s.paused = false := by simpa using hidle
    split at ht
    · cases ht
      exact hP.timer s h
    · exact hP.burst s t _ h hf (.inr rfl) ht

theorem KeptByStep.of_deliver {c : Command} (h : P s) (ht : deliver c s = .next t) : P t := by
  cases c with
  | reset => cases ht; exact hP.reset s h
  | load program => cases ht; exact hP.load s program h
  | tick => exact hP.of_beginTick h ht
  | setKey id pressed => cases ht; exact hP.setKey s id pressed h

theorem KeptByStep.of_step (h : P s) (ht : step s = .next t) : P t := by
  unfold step cycle at ht
  split at ht
  · rename_i hin
    obtain ⟨-, hf⟩ : s.burst ≠ 0 ∧ s.faulted = false := by simpa [State.inTick] using hin
    exact hP.burst s t _ h hf (.inl rfl) ht
  · split at ht
    · exact hP.of_deliver (hP.setInbox s _ h) ht
    · exact hP.of_beginTick h ht

end

end Sys2Proof.Machine
end

section
/-!
PROOFS. Parameters and the diagnostics log (spec/10_state.md R32, R36, R39).
-/

namespace Sys2Proof.Machine

/-- `t` has the parameters of `s`, and its log extends that of `s`. -/
structure CfgFixedLogGrown (s t : State) : Prop where
  cfg : t.cfg = s.cfg
  events : s.events <+: t.events

theorem CfgFixedLogGrown.trans {s m t : State} (h : CfgFixedLogGrown s m) (h' : CfgFixedLogGrown m t) :
    CfgFixedLogGrown s t :=
  ⟨h'.cfg.trans h.cfg, h.events.trans h'.events⟩

theorem exec_cfgFixedLogGrown {i : Instr} {s t : State} (h : exec i s = .next t) : CfgFixedLogGrown s t := by
  cases exec_answers h <;> exact ⟨rfl, List.prefix_rfl⟩

/-- The one event a STEP can log is that of an unrecognized opcode (R125). -/
theorem instrStep_cfgFixedLogGrown {s t : State} (h : instrStep s = .next t) : CfgFixedLogGrown s t := by
  rcases instrStep_cases h with ⟨-, rfl⟩ | ⟨op, e, -, -, rfl⟩ | ⟨op, i, -, -, hx⟩
  · exact ⟨rfl, List.prefix_rfl⟩
  · exact ⟨rfl, List.prefix_append _ _⟩
  · exact CfgFixedLogGrown.trans (m := s.advance) ⟨rfl, List.prefix_rfl⟩ (exec_cfgFixedLogGrown hx)

theorem endOfStep_cfgFixedLogGrown (left : Nat) (t : State) : CfgFixedLogGrown t (endOfStep left t) := by
  rcases endOfStep_cases left t with ⟨-, h⟩ | ⟨-, h⟩ | ⟨-, h⟩ <;> rw [h] <;> exact ⟨rfl, List.prefix_rfl⟩

theorem keptByStep_cfgFixedLogGrown (s₀ : State) : KeptByStep (CfgFixedLogGrown s₀) where
  setInbox _ _ h := ⟨h.cfg, h.events⟩
  reset _ h := ⟨h.cfg, h.events⟩
  load s program h := by
    rcases cmdLoad_cases program s with ⟨-, he⟩ | he <;> rw [he] <;> exact ⟨h.cfg, h.events⟩
  setKey s id pressed h := by
    rcases cmdSetKey_cases id pressed s with he | he | ⟨-, -, he⟩ <;> rw [he] <;> exact ⟨h.cfg, h.events⟩
  timer _ h := ⟨h.cfg, h.events⟩
  burst s t left h _ _ ht := by
    obtain ⟨m, hm, rfl⟩ := burstStep_next ht
    exact (h.trans (instrStep_cfgFixedLogGrown hm)).trans (endOfStep_cfgFixedLogGrown left m)

/-- Settles O58: every piece of a step keeps the relation to the state the step began in. -/
theorem parametersFixedAndLogGrows : Obligations.ParametersFixedAndLogGrows := by
  intro s t h
  obtain ⟨hcfg, hevents⟩ := (keptByStep_cfgFixedLogGrown s).of_step ⟨rfl, List.prefix_rfl⟩ h
  exact ⟨hcfg, hevents⟩

end Sys2Proof.Machine
end

section
/-!
PROOFS. Decoding and the wait-for-key instruction: a word decodes to it exactly when it encodes it (spec/30_encoding.md
R94, R95). The invariant needs this, because a wait holds only at such a word (spec/10_state.md R38).
-/

namespace Sys2Proof.Machine

variable {op : Word} {x : Nibble}

/-- A word is put together from its class, register and byte fields (R91, R92). -/
theorem formatI_fields (op : Word) : formatI (fieldC op) (fieldX op) (fieldKK op) = op := by
  refine BitVec.eq_of_getLsbD_eq fun i hi => ?_
  interval_cases i <;> simp [formatI, fieldAt, fieldC, fieldX, fieldKK]

theorem decodeWord_ldVxK (x : Nibble) : decodeWord (encode (.ldVxK x)) = .ok (.ldVxK x) := by
  simp [encode, decodeWord, decodeClassF]

theorem decodeClass0_ne_ldVxK : decodeClass0 op ≠ .ok (.ldVxK x) := by
  unfold decodeClass0
  repeat' split
  all_goals simp

theorem decodeClass8_ne_ldVxK : decodeClass8 op ≠ .ok (.ldVxK x) := by
  unfold decodeClass8
  repeat' split
  all_goals simp

theorem decodeClassE_ne_ldVxK : decodeClassE op ≠ .ok (.ldVxK x) := by
  unfold decodeClassE
  repeat' split
  all_goals simp

/-- A dispatch that answers `i`, and whose first branch does not, took its second. -/
theorem dispatch_else {c : Prop} [Decidable c] {a b : Except DecodeError Instr} {i : Instr}
    (ha : a ≠ .ok i) (h : (if c then a else b) = .ok i) : ¬ c ∧ b = .ok i := by
  split at h
  · exact absurd h ha
  · exact ⟨‹_›, h⟩

/-- Of the sixteen classes (R94), dispatched in order, class F alone has the wait-for-key instruction. -/
theorem decodeClassF_of_decodeWord_ldVxK (h : decodeWord op = .ok (.ldVxK x)) :
    fieldC op = 0xF ∧ decodeClassF op = .ok (.ldVxK x) := by
  obtain ⟨h0, h⟩ := dispatch_else decodeClass0_ne_ldVxK h
  obtain ⟨h1, h⟩ := dispatch_else (by simp) h
  obtain ⟨h2, h⟩ := dispatch_else (by simp) h
  obtain ⟨h3, h⟩ := dispatch_else (by simp) h
  obtain ⟨h4, h⟩ := dispatch_else (by simp) h
  obtain ⟨h5, h⟩ := dispatch_else (by simp) h
  obtain ⟨h6, h⟩ := dispatch_else (by simp) h
  obtain ⟨h7, h⟩ := dispatch_else (by simp) h
  obtain ⟨h8, h⟩ := dispatch_else decodeClass8_ne_ldVxK h
  obtain ⟨h9, h⟩ := dispatch_else (by simp) h
  obtain ⟨hA, h⟩ := dispatch_else (by simp) h
  obtain ⟨hB, h⟩ := dispatch_else (by simp) h
  obtain ⟨hC, h⟩ := dispatch_else (by simp) h
  obtain ⟨hD, h⟩ := dispatch_else (by simp) h
  obtain ⟨hE, h⟩ := dispatch_else decodeClassE_ne_ldVxK h
  exact ⟨by bv_omega, h⟩

theorem fields_of_decodeClassF_ldVxK (h : decodeClassF op = .ok (.ldVxK x)) :
    fieldKK op = 0x0A ∧ fieldX op = x := by
  unfold decodeClassF at h
  repeat' split at h
  all_goals cases h
  exact ⟨‹_›, rfl⟩

theorem eq_encode_of_decodeWord_ldVxK (h : decodeWord op = .ok (.ldVxK x)) : op = encode (.ldVxK x) := by
  obtain ⟨hC, hF⟩ := decodeClassF_of_decodeWord_ldVxK h
  obtain ⟨hKK, hX⟩ := fields_of_decodeClassF_ldVxK hF
  rw [← formatI_fields op, hC, hKK, hX]
  rfl

end Sys2Proof.Machine
end

section
/-!
PROOFS. The invariant of the core (Sys2Proof/Safety.lean): true after RESET and at power-on, kept by every step
(spec/10_state.md R22, R35, R37, R38, spec/40_cycle.md R121, spec/60_exceptions.md R232).

A STEP run between TICKs, with the counter `burst` at 0, keeps the whole of it (`instrStep_inv`). Inside a TICK a fault
breaks it until the burst is ended; but a STEP's end does not depend on the counter it began with
(`burstStep_setBurst`), so that case is the same.
-/

namespace Sys2Proof.Machine

variable {i : Instr} {s t : State}

/-! ## PC after fetch -/

theorem State.pc_le_of_fetch {op : Word} (h : s.fetch = some op) : s.pc.toNat ≤ 4094 := by
  by_contra hlt
  rw [State.fetch_none s (by omega)] at h
  cases h

/-- After a fetch PC has been increased without wrap, and is an address or 4096 (R123). -/
theorem State.advance_pc_bounds {op : Word} (h : s.fetch = some op) :
    2 ≤ s.advance.pc.toNat ∧ s.advance.pc.toNat ≤ 4096 := by
  have := State.pc_le_of_fetch h
  rw [State.advance_pc]
  bv_omega

@[simp] theorem State.advance_instrAddr : s.advance.instrAddr = s.pc := by
  simp [State.instrAddr]

theorem zextAddr_le (nnn : Addr) : (zextAddr nnn).toNat ≤ 4095 := by
  have := nnn.isLt
  simp only [zextAddr, BitVec.toNat_setWidth]
  omega

/-- The highest target of a jump with offset, 0xFFF + 0xFF, is the bound of R22. -/
theorem zextAddr_add_zextByte_le (nnn : Addr) (b : Byte) : (zextAddr nnn + zextByte b).toNat ≤ 0x10FE := by
  have := nnn.isLt
  have := b.isLt
  simp only [zextAddr, zextByte, BitVec.toNat_add, BitVec.toNat_setWidth]
  omega

/-! ## The parts of the invariant, over one instruction -/

theorem exec_memCanonical (h : exec i s = .next t) (hm : s.memCanonical) : t.memCanonical := by
  cases exec_answers h with
  | store i hi bytes hb => exact Memory.wf_writeRun bytes hm hb
  | _ => exact hm

theorem exec_pcBounded (h : exec i s = .next t) (hlo : 2 ≤ s.pc.toNat) (hhi : s.pc.toNat ≤ 4096)
    (hst : ∀ k : Fin 16, s.stack[k].toNat ≤ 4096) : t.pcBounded := by
  have hpc : s.pc.toNat ≤ 0x10FE := by omega
  have hback : (s.pc - 2).toNat ≤ 0x10FE := by bv_omega
  have hskip : (s.pc + 2).toNat ≤ 0x10FE := by bv_omega
  cases exec_answers h with
  | raise i u => exact ⟨hback, hst⟩
  | skip i c =>
    cases c with
    | false => exact ⟨hpc, hst⟩
    | true => exact ⟨hskip, hst⟩
  | jump nnn => exact ⟨(zextAddr_le nnn).trans (by decide), hst⟩
  | jumpV0 nnn => exact ⟨zextAddr_add_zextByte_le nnn _, hst⟩
  | call nnn k hk sp =>
    refine ⟨(zextAddr_le nnn).trans (by decide), fun j => ?_⟩
    simp only [State.setPc_stack, State.setStack_stack, Fin.getElem_fin, Vector.getElem_set]
    split
    · exact hhi
    · exact hst j
  | ret ign k sp => exact ⟨(hst k).trans (by decide), hst⟩
  | wait x => exact ⟨hback, hst⟩
  | _ => exact ⟨hpc, hst⟩

theorem exec_fault_cases (h : exec i s = .next t) : t.fault = s.fault ∨ ∃ u, t = s.raise u (encode i) := by
  cases exec_answers h with
  | raise i u => exact .inr ⟨u, rfl⟩
  | _ => exact .inl rfl

theorem exec_wait_frame (h : exec i s = .next t) (hi : ∀ x, i ≠ .ldVxK x) :
    t.paused = s.paused ∧ t.waiting = s.waiting := by
  cases exec_answers h with
  | wait x => exact absurd rfl (hi x)
  | _ => exact ⟨rfl, rfl⟩

/-- The wait-for-key instruction waits at its own word; any other runs only when the core is not waiting, and leaves it
so. -/
theorem exec_waitSound {op : Word} (h : exec i s.advance = .next t) (hw : s.waitSound)
    (hop : s.fetch = some op) (hd : decodeWord op = .ok i) : t.waitSound := by
  by_cases hi : ∃ x, i = .ldVxK x
  · obtain ⟨x, rfl⟩ := hi
    cases h
    refine ⟨rfl, fun _ => ⟨x, ?_⟩⟩
    show (s.setPc s.advance.instrAddr).fetch = _
    rw [State.advance_instrAddr, ← eq_encode_of_decodeWord_ldVxK hd]
    exact hop
  · obtain ⟨hp, hwt⟩ := exec_wait_frame h fun x hx => hi ⟨x, hx⟩
    refine ⟨hp.trans (hw.1.trans hwt.symm), fun htw => ?_⟩
    obtain ⟨x, hx⟩ := hw.2 (hwt.symm.trans htw)
    cases hop.symm.trans hx
    cases hd.symm.trans (decodeWord_ldVxK x)
    exact absurd ⟨x, rfl⟩ hi

/-! ## The FAULT latch -/

theorem State.faultSound.eq_clear (h : s.faultSound) (hf : s.faulted = false) : s.fault = FaultLatch.clear :=
  h.1 (by simpa [State.faulted] using hf)

theorem faultSound_of_eq_clear (hc : s.fault = FaultLatch.clear) : s.faultSound := by
  refine ⟨fun _ => hc, fun hf => ?_⟩
  simp [State.faulted, hc, FaultLatch.clear] at hf

theorem takeFault_faultSound (u : Trap) (a op : Word) (hb : s.burst = 0) : (s.takeFault u a op).faultSound :=
  ⟨nofun, fun _ => ⟨rfl, hb⟩⟩

/-! ## One STEP -/

theorem unrecognized_inv {op : Word} {e : DecodeError} (hs : s.Inv) (hf : s.faulted = false)
    (hop : s.fetch = some op) (hd : decodeWord op = .error e) : (s.advance.unrecognized op).Inv := by
  obtain ⟨-, hhi⟩ := State.advance_pc_bounds hop
  have hwait : (s.advance.unrecognized op).waitSound := by
    refine ⟨hs.wait.1, fun hw => ?_⟩
    obtain ⟨x, hx⟩ := hs.wait.2 hw
    cases hop.symm.trans hx
    cases hd.symm.trans (decodeWord_ldVxK x)
  exact ⟨hs.mem, hwait, faultSound_of_eq_clear (hs.fault.eq_clear hf), ⟨hhi.trans (by decide), hs.pc.2⟩, hs.burst⟩

theorem instrStep_inv (h : instrStep s = .next t) (hs : s.Inv) (hf : s.faulted = false) (hb : s.burst = 0) :
    t.Inv := by
  rcases instrStep_cases h with ⟨-, rfl⟩ | ⟨op, e, hop, hd, rfl⟩ | ⟨op, i, hop, hd, hx⟩
  · exact ⟨hs.mem, hs.wait, takeFault_faultSound _ _ _ hb, hs.pc, hs.burst⟩
  · exact unrecognized_inv hs hf hop hd
  · obtain ⟨hlo, hhi⟩ := State.advance_pc_bounds hop
    have hburst : t.burst = 0 := (instrStep_burst h).trans hb
    have hfault : t.faultSound := by
      rcases exec_fault_cases hx with hsame | ⟨u, rfl⟩
      · exact faultSound_of_eq_clear (hsame.trans (hs.fault.eq_clear hf))
      · exact takeFault_faultSound _ _ _ hb
    exact ⟨exec_memCanonical hx hs.mem, exec_waitSound hx hs.wait hop hd, hfault,
      exec_pcBounded hx hlo hhi hs.pc.2, hburst.le.trans (Nat.zero_le _)⟩

/-! ## The updates around a STEP -/

theorem State.Inv.setBurst (h : s.Inv) {n : Nat} (hn : n ≤ s.cfg.clockSpeed) (hf : s.faulted = true → n = 0) :
    (s.setBurst n).Inv :=
  ⟨h.mem, h.wait, ⟨h.fault.1, fun hs => ⟨(h.fault.2 hs).1, hf hs⟩⟩, h.pc, hn⟩

theorem State.Inv.timerStep (h : s.Inv) : (timerStep s).Inv :=
  ⟨h.mem, h.wait, h.fault, h.pc, h.burst⟩

theorem State.Inv.setInbox (h : s.Inv) (cs : List Command) : (s.setInbox cs).Inv :=
  ⟨h.mem, h.wait, h.fault, h.pc, h.burst⟩

theorem State.Inv.setKey (h : s.Inv) (id : Nibble) (pressed : Bool) : (s.setKey id pressed).Inv :=
  ⟨h.mem, h.wait, h.fault, h.pc, h.burst⟩

theorem State.Inv.setLoadStatus (h : s.Inv) (r : LoadStatus) : (s.setLoadStatus r).Inv :=
  ⟨h.mem, h.wait, h.fault, h.pc, h.burst⟩

theorem endOfStep_inv {left : Nat} (h : t.Inv) (hl : left ≤ t.cfg.clockSpeed) : (endOfStep left t).Inv := by
  rcases endOfStep_cases left t with ⟨-, he⟩ | ⟨-, he⟩ | ⟨hf, he⟩
  · exact he ▸ h.setBurst (Nat.zero_le _) fun _ => rfl
  · exact he ▸ h.timerStep.setBurst (Nat.zero_le _) fun _ => rfl
  · exact he ▸ h.setBurst ((Nat.sub_le _ _).trans hl) fun hf' => by simp [hf] at hf'

theorem burstStep_inv {left : Nat} (h : burstStep left s = .next t) (hs : s.Inv) (hf : s.faulted = false)
    (hl : left ≤ s.cfg.clockSpeed) : t.Inv := by
  rw [← burstStep_setBurst s 0] at h
  obtain ⟨m, hm, rfl⟩ := burstStep_next h
  have hcfg : m.cfg = s.cfg := (instrStep_cfgFixedLogGrown hm).cfg
  have hs0 : (s.setBurst 0).Inv := hs.setBurst (Nat.zero_le _) fun _ => rfl
  exact endOfStep_inv (instrStep_inv hm hs0 hf rfl) (hcfg ▸ hl)

/-! ## Host commands -/

theorem cmdReset_inv (s : State) : (cmdReset s).Inv where
  mem := Memory.wf_nil
  wait := ⟨rfl, nofun⟩
  fault := faultSound_of_eq_clear rfl
  pc := ⟨by show (0x0200 : Word).toNat ≤ 0x10FE; decide, fun k => by simp [cmdReset, State.reset]⟩
  burst := Nat.zero_le _

theorem cmdLoad_inv (program : List Byte) (s : State) : (cmdLoad program s).Inv := by
  have h := cmdReset_inv s
  rcases cmdLoad_cases program s with ⟨hlen, he⟩ | he <;> rw [he]
  · have hend : Config.programOrigin + program.length ≤ Config.memSize := by
      simp only [Config.programOrigin, Config.memSize]
      omega
    have hload : ((cmdReset s).storeBytes Config.programOrigin program).Inv :=
      ⟨Memory.wf_writeRun program h.mem hend, ⟨rfl, nofun⟩, h.fault, h.pc, h.burst⟩
    exact hload.setLoadStatus .ok
  · exact h.setLoadStatus .loadOverflow

/-- A wait is at a word that was fetched, so that moving past it stays in bounds. -/
theorem completeWait_inv (h : s.Inv) (hf : s.faulted = false) (hw : s.waiting = true) (id : Nibble) :
    (completeWait id s).Inv := by
  obtain ⟨x, hx⟩ := h.wait.2 hw
  obtain ⟨-, hhi⟩ := State.advance_pc_bounds hx
  exact ⟨h.mem, ⟨rfl, nofun⟩, faultSound_of_eq_clear (h.fault.eq_clear hf), ⟨hhi.trans (by decide), h.pc.2⟩, h.burst⟩

theorem cmdSetKey_inv (h : s.Inv) (id : Nibble) (pressed : Bool) : (cmdSetKey id pressed s).Inv := by
  rcases cmdSetKey_cases id pressed s with he | he | ⟨hf, hw, he⟩ <;> rw [he]
  · exact h
  · exact h.setKey id pressed
  · exact completeWait_inv (h.setKey id pressed) hf hw id

/-! ## The machine -/

theorem keptByStep_inv : KeptByStep State.Inv where
  setInbox s cs h := h.setInbox cs
  reset s _ := cmdReset_inv s
  load s program _ := cmdLoad_inv program s
  setKey s id pressed h := cmdSetKey_inv h id pressed
  timer s h := h.timerStep
  burst s t left h hf hleft ht := by
    refine burstStep_inv ht h hf ?_
    rcases hleft with rfl | rfl
    · exact h.burst
    · exact le_rfl

/-- Settles O56: every piece of a machine step keeps the invariant. -/
theorem stepKeepsInvariant : Obligations.StepKeepsInvariant :=
  fun _ _ hs h => keptByStep_inv.of_step hs h

theorem powerOn_inv : State.powerOn.Inv where
  mem := Memory.wf_writeRun _ Memory.wf_nil (by decide)
  wait := ⟨rfl, nofun⟩
  fault := faultSound_of_eq_clear rfl
  pc := ⟨Nat.zero_le _, (cmdReset_inv State.reset).pc.2⟩
  burst := Nat.zero_le _

/-- Settles O55: the reset state is what RESET makes of itself, and lists no byte of memory. -/
theorem resetSatisfiesInvariant : Obligations.ResetSatisfiesInvariant :=
  ⟨cmdReset_inv State.reset, fun _ _ => rfl, powerOn_inv⟩

end Sys2Proof.Machine
end

section
/-!
PROOFS. The key latch (spec/10_state.md R29): who writes it, and who reads it.
-/

namespace Sys2Proof.Machine

/-! ## Only the key skips read a key -/

/-- KEY replaced whole. -/
def State.setKeys (s : State) (keys : Vector Bool 16) : State := { s with key := keys }

/-- `key` set to `keys` in the state an outcome answers. -/
abbrev withKeys (keys : Vector Bool 16) : Result → Result := mapNext fun t => t.setKeys keys

section
variable (s : State) (keys : Vector Bool 16)

theorem State.skipIf_setKeys (c : Bool) : (s.setKeys keys).skipIf c = (s.skipIf c).setKeys keys := by
  cases c <;> rfl

theorem guarded_setKeys (t : Option Trap) (op : Word) {e e' : State} (he : e' = e.setKeys keys) :
    guarded t op (s.setKeys keys) e' = withKeys keys (guarded t op s e) := by
  subst he
  cases t <;> rfl

theorem execRet_setKeys (ign : Nibble) : execRet ign (s.setKeys keys) = withKeys keys (execRet ign s) := by
  by_cases h : 0 < s.sp.val
  · have h' : s.sp.val - 1 < 16 := by omega
    simp only [execRet, State.pop_some s h h', State.pop_some (s.setKeys keys) h h']
    rfl
  · have h0 : s.sp = 0 := by omega
    simp only [execRet, State.pop_none s h0, State.pop_none (s.setKeys keys) h0]
    rfl

theorem execCall_setKeys (nnn : Addr) : execCall nnn (s.setKeys keys) = withKeys keys (execCall nnn s) := by
  by_cases h : s.sp.val < 16
  · simp only [execCall, State.push_some s h, State.push_some (s.setKeys keys) h]
    rfl
  · have h16 : s.sp = 16 := by omega
    simp only [execCall, State.push_none s h16, State.push_none (s.setKeys keys) h16]
    rfl

/-- The arms named here branch on the state (a stack entry, a skip's condition, an address check); every other is one
composition of State's updates. -/
theorem exec_setKeys {i : Instr} (hi : ∀ x, i ≠ .skp x ∧ i ≠ .sknp x) :
    exec i (s.setKeys keys) = withKeys keys (exec i s) := by
  cases i with
  | skp x => exact absurd rfl (hi x).1
  | sknp x => exact absurd rfl (hi x).2
  | ret ign => exact execRet_setKeys s keys ign
  | call nnn => exact execCall_setKeys s keys nnn
  | seImm x kk => exact congrArg Host.Outcome.next (State.skipIf_setKeys s keys _)
  | sneImm x kk => exact congrArg Host.Outcome.next (State.skipIf_setKeys s keys _)
  | seReg x y ign => exact congrArg Host.Outcome.next (State.skipIf_setKeys s keys _)
  | sneReg x y ign => exact congrArg Host.Outcome.next (State.skipIf_setKeys s keys _)
  | drw x y h => exact guarded_setKeys s keys _ _ rfl
  | ldB x => exact guarded_setKeys s keys _ _ rfl
  | ldMemVx x => exact guarded_setKeys s keys _ _ rfl
  | ldVxMem x => exact guarded_setKeys s keys _ _ rfl
  | _ => rfl

end

/-! ## What the key skips read (R210, R211) -/

section
variable {s : State} {x k : Nibble} {b : Byte}

theorem lowNibble_of_toNat_eq (h : b.toNat = k.toNat) : lowNibble b = k := by
  refine BitVec.eq_of_toNat_eq ?_
  have := k.isLt
  simp only [lowNibble, BitVec.extractLsb'_toNat, h, Nat.shiftRight_zero]
  omega

theorem keyTrap_of_toNat_eq (h : b.toNat = k.toNat) : keyTrap b = none :=
  keyTrap_none.mpr (by have := k.isLt; omega)

theorem exec_skp_of_key (h : (s.reg x).toNat = k.toNat) : exec (.skp x) s = .next (s.skipIf (s.keyDown k)) := by
  show guarded _ _ s _ = _
  rw [keyTrap_of_toNat_eq h, guarded_none, lowNibble_of_toNat_eq h]

theorem exec_sknp_of_key (h : (s.reg x).toNat = k.toNat) : exec (.sknp x) s = .next (s.skipIf (!s.keyDown k)) := by
  show guarded _ _ s _ = _
  rw [keyTrap_of_toNat_eq h, guarded_none, lowNibble_of_toNat_eq h]

end

/-! ## SET_KEY (R240, R241) -/

section
variable {s : State} (id k : Nibble) (pressed : Bool)

theorem State.keyDown_setKey : (s.setKey id pressed).keyDown k = if k = id then pressed else s.keyDown k := by
  simp only [State.keyDown, State.setKey_key, Vector.getElem_set]
  by_cases h : k = id
  · simp [h]
  · have : id.toNat ≠ k.toNat := fun e => h (BitVec.eq_of_toNat_eq e.symm)
    simp [h, this]

@[simp] theorem completeWait_keyDown : (completeWait id s).keyDown k = s.keyDown k := rfl

@[simp] theorem completeWait_waiting : (completeWait id s).waiting = false := rfl

theorem cmdSetKey_keyDown (hf : s.faulted = false) :
    (cmdSetKey id pressed s).keyDown k = if k = id then pressed else s.keyDown k := by
  rw [← State.keyDown_setKey]
  by_cases h : s.waiting = false ∨ pressed = false
  · rw [cmdSetKey_of_no_wake id hf h]
  · obtain ⟨hw, rfl⟩ : s.waiting = true ∧ pressed = true := by simpa using h
    rw [cmdSetKey_press_of_waiting id hf hw, completeWait_keyDown]

theorem cmdSetKey_waiting (hf : s.faulted = false) (hw : s.waiting = true) :
    (cmdSetKey id pressed s).waiting = !pressed := by
  cases pressed with
  | true => rw [cmdSetKey_press_of_waiting id hf hw, completeWait_waiting]; rfl
  | false => rw [cmdSetKey_of_no_wake id hf (.inr rfl)]; exact hw

end

/-! ## No instruction and no TICK writes a key -/

/-- `t` has the keys of `s`, and waits when `s` does. -/
structure KeysKept (s t : State) : Prop where
  key : t.key = s.key
  waiting : s.waiting = true → t.waiting = true

theorem KeysKept.trans {s m t : State} (h : KeysKept s m) (h' : KeysKept m t) : KeysKept s t :=
  ⟨h'.key.trans h.key, fun hw => h'.waiting (h.waiting hw)⟩

theorem exec_keysKept {i : Instr} {s t : State} (h : exec i s = .next t) : KeysKept s t := by
  cases exec_answers h with
  | wait x => exact ⟨rfl, fun _ => rfl⟩
  | _ => exact ⟨rfl, id⟩

theorem instrStep_keysKept {s t : State} (h : instrStep s = .next t) : KeysKept s t := by
  rcases instrStep_cases h with ⟨-, rfl⟩ | ⟨op, e, -, -, rfl⟩ | ⟨op, i, -, -, hx⟩
  · exact ⟨rfl, id⟩
  · exact ⟨rfl, id⟩
  · exact KeysKept.trans (m := s.advance) ⟨rfl, id⟩ (exec_keysKept hx)

theorem runBurst_keysKept (n : Nat) : ∀ {s t : State}, runBurst n s = .next t → KeysKept s t := by
  induction n with
  | zero =>
    intro s t h
    cases h
    exact ⟨rfl, id⟩
  | succ n ih =>
    intro s t h
    obtain ⟨m, hm, ⟨-, rfl⟩ | ⟨-, ht⟩⟩ := runBurst_succ_next h
    · exact instrStep_keysKept hm
    · exact (instrStep_keysKept hm).trans (ih ht)

theorem tick_keysKept {s t : State} (h : tick s = .next t) : KeysKept s t := by
  unfold tick at h
  split at h
  · cases h
    exact ⟨rfl, id⟩
  · exact runBurst_keysKept _ h

/-- Settles O50: the clauses on SET_KEY, RESET and power-on, the instructions as writers, the two key skips and the other
instructions as readers, and TICK, in this order. -/
theorem keyLatch : Obligations.KeyLatch := by
  refine ⟨fun id pressed s hf => ⟨?_, fun k hk => ?_, fun hno => ?_, cmdSetKey_waiting id pressed hf⟩,
    fun s k => ⟨Vector.getElem_replicate _, Vector.getElem_replicate _⟩, fun i s t h => (exec_keysKept h).key,
    fun x k s h => ⟨?_, ?_⟩, fun i s t keys hi h => ?_, fun s t h => ?_⟩
  · rw [cmdSetKey_keyDown id id pressed hf, if_pos rfl]
  · rw [cmdSetKey_keyDown id k pressed hf, if_neg hk]
  · rw [cmdSetKey_of_no_wake id hf hno]
    rfl
  · rw [exec_skp_of_key h]
    cases s.keyDown k <;> rfl
  · rw [exec_sknp_of_key h]
    cases s.keyDown k <;> rfl
  · exact (exec_setKeys s keys hi).trans (congrArg (withKeys keys) h)
  · obtain ⟨hkey, hwait⟩ := tick_keysKept h
    exact ⟨hkey, hwait⟩

end Sys2Proof.Machine
end

section
/-!
PROOFS. Data forms: canonical memories are determined by what they read (spec/10_state.md R30), and the display read
port is row-major (R33; D16).
-/

namespace Sys2Proof.Machine

/-! ## Canonical memory, entry by entry -/

section
variable {bg : Nat → Byte} {k : Nat} {b : Byte} {rest : Memory}

theorem Memory.wf_tail (h : Memory.wf bg ((k, b) :: rest)) : Memory.wf bg rest :=
  ⟨(List.pairwise_cons.mp h.1).2, fun d hd => h.2 d (by simp [hd])⟩

theorem Memory.head_ne_bg (h : Memory.wf bg ((k, b) :: rest)) : b ≠ bg k := (h.2 (k, b) (by simp)).2

@[simp] theorem Memory.read_cons_same : Memory.read bg ((k, b) :: rest) k = b := by simp [Memory.read]

theorem Memory.read_cons_ne {a : Nat} (h : k ≠ a) : Memory.read bg ((k, b) :: rest) a = Memory.read bg rest a := by
  rw [Memory.read, if_neg h]

theorem Memory.read_tail_of_le (h : Memory.wf bg ((k, b) :: rest)) {a : Nat} (ha : a ≤ k) :
    Memory.read bg rest a = bg a :=
  Memory.read_of_lt fun d hd => ha.trans_lt ((List.pairwise_cons.mp h.1).1 d hd)

/-- Where two canonical memories read the same, neither lists a first address below the other's. -/
theorem Memory.head_le_of_read_eq {k' : Nat} {b' : Byte} {rest' : Memory} (hm : Memory.wf bg ((k, b) :: rest))
    (hm' : Memory.wf bg ((k', b') :: rest'))
    (h : ∀ a, Memory.read bg ((k, b) :: rest) a = Memory.read bg ((k', b') :: rest') a) : k' ≤ k := by
  by_contra hlt
  have hk := h k
  rw [Memory.read_cons_same, Memory.read_cons_ne (by omega), Memory.read_tail_of_le hm' (by omega)] at hk
  exact Memory.head_ne_bg hm hk

end

theorem Memory.eq_of_read_eq {bg : Nat → Byte} : ∀ {m m' : Memory}, Memory.wf bg m → Memory.wf bg m' →
    (∀ a, Memory.read bg m a = Memory.read bg m' a) → m = m'
  | [], [], _, _, _ => rfl
  | [], (k, _) :: _, _, hm', h => absurd (by simpa [Memory.read] using (h k).symm) (Memory.head_ne_bg hm')
  | (k, _) :: _, [], hm, _, h => absurd (by simpa [Memory.read] using h k) (Memory.head_ne_bg hm)
  | (k, b) :: rest, (k', b') :: rest', hm, hm', h => by
    obtain rfl : k = k' :=
      (Memory.head_le_of_read_eq hm' hm fun a => (h a).symm).antisymm (Memory.head_le_of_read_eq hm hm' h)
    have hb : b = b' := by simpa using h k
    have hrest : rest = rest' := by
      refine Memory.eq_of_read_eq (Memory.wf_tail hm) (Memory.wf_tail hm') fun a => ?_
      by_cases ha : k = a
      · rw [Memory.read_tail_of_le hm ha.ge, Memory.read_tail_of_le hm' ha.ge]
      · simpa [Memory.read_cons_ne ha] using h a
    rw [hb, hrest]

/-- Settles O60, by induction on both lists. -/
theorem canonicalMemoriesAreEqualData : Obligations.CanonicalMemoriesAreEqualData :=
  fun _ _ _ hm hm' h => Memory.eq_of_read_eq hm hm' h

/-! ## The display read port -/

theorem displayPort_eq_flatten (s : State) :
    s.displayPort = (s.disp.map fun row => row.map flagOf).flatten.toList := by
  simp [State.displayPort, Vector.toList, Vector.flatten, List.flatMap_def, Function.comp_def]

/-- Settles O31: element 64 r + c of the rows put end to end is element c of row r. -/
theorem displayPortIsRowMajor : Obligations.DisplayPortIsRowMajor := by
  intro s
  rw [displayPort_eq_flatten]
  refine ⟨by simp, fun r c => ?_⟩
  have hlt : 64 * r.val + c.val < 32 * 64 := by omega
  have hr : (64 * r.val + c.val) / 64 = r.val := by omega
  have hc : (64 * r.val + c.val) % 64 = c.val := by omega
  rw [Vector.getElem?_toList, Vector.getElem?_eq_getElem hlt, Vector.getElem_flatten]
  simp only [Vector.getElem_map, hr, hc]
  rfl

end Sys2Proof.Machine
end

section
/-!
PROOFS. Memory checks and what they keep: an access out of range or a store below 0x200 is a fault and nothing else
(spec/20_memory.md R63, R66), so that under the policy fault no step changes memory below 0x200 (R65).
-/

namespace Sys2Proof.Machine

variable {s t : State}

/-! ## Instructions -/

section
variable {a : Nat} (hp : s.cfg.lowmemWrite = .fault) (ha : a < Config.programOrigin)
include hp ha

/-- A store past its check starts at 0x200 or above, and one that fails it stores nothing (R66). -/
theorem guarded_store_readByte_low {len : Nat} {op : Word} {bytes : List Byte}
    (h : guarded (writeTrap s.cfg s.base len) op s (s.storeBytes s.base bytes) = .next t) :
    t.readByte a = s.readByte a := by
  rcases guarded_cases s (writeTrap s.cfg s.base len) op (s.storeBytes s.base bytes) with ⟨hu, hg⟩ | ⟨u, -, hg⟩
  · cases hg.symm.trans h
    have hbase : 0x200 ≤ s.base := by simpa [hp] using (writeTrap_none.mp hu).2
    exact State.readByte_storeBytes_outside s bytes (.inl (ha.trans_le hbase))
  · cases hg.symm.trans h
    rfl

/-- The two stores aside, no instruction writes memory at all. -/
theorem exec_readByte_low {i : Instr} (h : exec i s = .next t) : t.readByte a = s.readByte a := by
  cases exec_answers h with
  | store i hi bytes hb =>
    obtain ⟨x, rfl | rfl⟩ := hi
    · exact guarded_store_readByte_low hp ha h
    · exact guarded_store_readByte_low hp ha h
  | _ => rfl

theorem instrStep_readByte_low (h : instrStep s = .next t) : t.readByte a = s.readByte a := by
  rcases instrStep_cases h with ⟨-, rfl⟩ | ⟨op, e, -, -, rfl⟩ | ⟨op, i, -, -, hx⟩
  · rfl
  · rfl
  · exact exec_readByte_low (s := s.advance) hp ha hx

end

theorem endOfStep_readByte (left : Nat) (t : State) (a : Nat) : (endOfStep left t).readByte a = t.readByte a := by
  rcases endOfStep_cases left t with ⟨-, h⟩ | ⟨-, h⟩ | ⟨-, h⟩ <;> rw [h] <;> rfl

/-! ## Host commands -/

theorem cmdReset_lowMemoryIntact (s : State) : (cmdReset s).lowMemoryIntact := fun a _ => cmdReset_readByte s a

/-- LOAD writes past the checks, but from 0x200 on (R272). -/
theorem cmdLoad_lowMemoryIntact (program : List Byte) (s : State) : (cmdLoad program s).lowMemoryIntact := by
  rcases cmdLoad_cases program s with ⟨-, h⟩ | h <;> rw [h]
  · intro a ha
    exact State.readByte_storeBytes_outside (cmdReset s) program (.inl ha)
  · exact cmdReset_lowMemoryIntact s

theorem cmdLoad_cfg (program : List Byte) (s : State) : (cmdLoad program s).cfg = s.cfg :=
  ((keptByStep_cfgFixedLogGrown s).load s program ⟨rfl, List.prefix_rfl⟩).cfg

theorem cmdSetKey_cfg (id : Nibble) (pressed : Bool) (s : State) : (cmdSetKey id pressed s).cfg = s.cfg :=
  ((keptByStep_cfgFixedLogGrown s).setKey s id pressed ⟨rfl, List.prefix_rfl⟩).cfg

theorem cmdSetKey_readByte (id : Nibble) (pressed : Bool) (s : State) (a : Nat) :
    (cmdSetKey id pressed s).readByte a = s.readByte a := by
  rcases cmdSetKey_cases id pressed s with h | h | ⟨-, -, h⟩ <;> rw [h] <;> rfl

/-! ## The machine -/

/-- Memory below 0x200 is as RESET left it, and the policy protects it: what every step keeps (R65, R66). -/
structure LowMemoryGuarded (s : State) : Prop where
  policy : s.cfg.lowmemWrite = .fault
  intact : s.lowMemoryIntact

theorem LowMemoryGuarded.congr (h : LowMemoryGuarded s) (hcfg : t.cfg = s.cfg)
    (hread : ∀ a, a < Config.programOrigin → t.readByte a = s.readByte a) : LowMemoryGuarded t where
  policy := hcfg ▸ h.policy
  intact a ha := by rw [hread a ha, hcfg, h.intact a ha]

theorem burstStep_lowMemoryGuarded {left : Nat} (h : LowMemoryGuarded s) (ht : burstStep left s = .next t) :
    LowMemoryGuarded t := by
  obtain ⟨m, hm, rfl⟩ := burstStep_next ht
  have hstep := h.congr (instrStep_cfgFixedLogGrown hm).cfg fun a ha => instrStep_readByte_low h.policy ha hm
  exact hstep.congr (endOfStep_cfgFixedLogGrown left m).cfg fun a _ => endOfStep_readByte left m a

theorem keptByStep_lowMemoryGuarded : KeptByStep LowMemoryGuarded where
  setInbox _ _ h := h.congr rfl fun _ _ => rfl
  reset s h := ⟨h.policy, cmdReset_lowMemoryIntact s⟩
  load s program h := ⟨cmdLoad_cfg program s ▸ h.policy, cmdLoad_lowMemoryIntact program s⟩
  setKey s id pressed h := h.congr (cmdSetKey_cfg id pressed s) fun a _ => cmdSetKey_readByte id pressed s a
  timer _ h := h.congr rfl fun _ _ => rfl
  burst _ _ _ h _ _ ht := burstStep_lowMemoryGuarded h ht

/-- Settles O57: every piece of a machine step keeps the policy and the bytes below 0x200. -/
theorem lowMemoryStaysIntact : Obligations.LowMemoryStaysIntact := fun _ _ hp hs h =>
  (keptByStep_lowMemoryGuarded.of_step ⟨hp, hs⟩ h).intact

/-! ## The two faults of an access (R63, R66) -/

theorem guarded_readTrap_outOfRange {len : Nat} (op : Word) (e : State) (h0 : len ≠ 0)
    (h : 4096 < s.i.toNat + len) : guarded (readTrap s.base len) op s e =
      .next (faultedFrom s .addressOutOfRange op (max s.i.toNat 4096)) := by
  rw [readTrap_some (base := s.base) h0 h]
  rfl

theorem guarded_writeTrap_outOfRange {len : Nat} (op : Word) (e : State) (h0 : len ≠ 0)
    (h : 4096 < s.i.toNat + len) : guarded (writeTrap s.cfg s.base len) op s e =
      .next (faultedFrom s .addressOutOfRange op (max s.i.toNat 4096)) := by
  rw [writeTrap_outOfRange (base := s.base) h0 h]
  rfl

/-- No store is longer than the 16 registers, so one that starts below 0x200 ends inside memory. -/
theorem guarded_writeTrap_reserved {len : Nat} (op : Word) (e : State) (hlen : len ≤ 16)
    (h : s.i.toNat < 0x200) (hp : s.cfg.lowmemWrite = .fault) : guarded (writeTrap s.cfg s.base len) op s e =
      .next (faultedFrom s .reservedWrite op s.i.toNat) := by
  have hend : s.base + len ≤ 4096 := by
    rw [State.base]
    omega
  rw [writeTrap_reserved hend h hp]
  rfl

/-- Settles O27: the clauses out of range of LD B, LD [I], LD Vx,[I] and DRW, and the reserved stores of the first two,
in this order. -/
theorem accessOutsideRangeFaults : Obligations.AccessOutsideRangeFaults := by
  refine fun x y n s => ⟨fun h => ?_, fun h => ?_, fun h => ?_, fun hn h => ?_, fun h hp => ?_, fun h hp => ?_⟩
  · exact guarded_writeTrap_outOfRange _ _ (by decide) (by omega)
  · exact guarded_writeTrap_outOfRange _ _ (Nat.succ_ne_zero _) (by omega)
  · exact guarded_readTrap_outOfRange _ _ (Nat.succ_ne_zero _) (by omega)
  · exact guarded_readTrap_outOfRange _ _ (fun h0 => hn (BitVec.eq_of_toNat_eq h0)) h
  · exact guarded_writeTrap_reserved _ _ (by decide) h hp
  · exact guarded_writeTrap_reserved _ _ x.isLt h hp

end Sys2Proof.Machine
end

section
/-!
PROOFS. A word the host places is the word fetched next (spec/20_memory.md R60, R71; log 4).
-/

namespace Sys2Proof.Machine

variable (s : State)

/-! ## The state a word is placed in -/

theorem State.readyToFetch_of_aboutToFetch (h : s.aboutToFetch = true) : s.readyToFetch = s := if_pos h

theorem State.readyToFetch_aboutToFetch : s.readyToFetch.aboutToFetch = true := by
  unfold State.readyToFetch
  split
  · assumption
  · have hin : (s.clearFault.setBurst (max 1 s.burst)).inTick = true := by
      simp [State.inTick, State.clearFault, State.faulted, FaultLatch.clear]
    simp [State.aboutToFetch, hin]

theorem State.readyToFetch_memCanonical (h : s.memCanonical) : s.readyToFetch.memCanonical := by
  unfold State.readyToFetch
  split <;> exact h

theorem State.atFetchablePc_of_pc_le (h : s.pc.toNat ≤ 4094) : s.atFetchablePc = s := if_pos h

theorem State.atFetchablePc_pc_le : s.atFetchablePc.pc.toNat ≤ 4094 := by
  unfold State.atFetchablePc
  split
  · assumption
  · exact (by decide : (0x200 : Word).toNat ≤ 4094)

@[simp] theorem State.atFetchablePc_aboutToFetch : s.atFetchablePc.aboutToFetch = s.aboutToFetch := by
  unfold State.atFetchablePc
  split <;> rfl

theorem State.atFetchablePc_memCanonical (h : s.memCanonical) : s.atFetchablePc.memCanonical := by
  unfold State.atFetchablePc
  split <;> exact h

/-! ## The word -/

theorem bytesOfWord_length (op : Word) : (bytesOfWord op).length = 2 := rfl

/-- A word stored at PC, high byte first, is the word at PC (R60, R123). -/
theorem State.fetch_storeBytes_bytesOfWord (op : Word) (hm : s.memCanonical) (hpc : s.pc.toNat ≤ 4094) :
    (s.storeBytes s.pc.toNat (bytesOfWord op)).fetch = some op := by
  have hlen : s.pc.toNat + (bytesOfWord op).length ≤ 4096 := by
    rw [bytesOfWord_length]
    omega
  have hhi : (s.storeBytes s.pc.toNat (bytesOfWord op)).readByte s.pc.toNat = op.extractLsb' 8 8 :=
    s.readByte_storeBytes_inside Nat.zero_lt_two hm hlen
  have hlo : (s.storeBytes s.pc.toNat (bytesOfWord op)).readByte (s.pc.toNat + 1) = op.extractLsb' 0 8 :=
    s.readByte_storeBytes_inside Nat.one_lt_two hm hlen
  rw [State.fetch_some (s.storeBytes _ _) hpc, State.storeBytes_pc, hhi, hlo, wordOfBytes_bytesOfWord]

theorem State.placeWord_aboutToFetch (op : Word) : (s.placeWord op).aboutToFetch = true :=
  (State.atFetchablePc_aboutToFetch s.readyToFetch).trans s.readyToFetch_aboutToFetch

theorem State.placeWord_fetch (op : Word) (h : s.memCanonical) : (s.placeWord op).fetch = some op :=
  State.fetch_storeBytes_bytesOfWord _ op
    (State.atFetchablePc_memCanonical _ (s.readyToFetch_memCanonical h)) (State.atFetchablePc_pc_le _)

/-- Where the next step fetches anyhow, from a PC it can fetch from, placing a word writes memory alone. -/
theorem State.placeWord_of_aboutToFetch (op : Word) (h : s.aboutToFetch = true) (hpc : s.pc.toNat ≤ 4094) :
    s.placeWord op = s.storeBytes s.pc.toNat (bytesOfWord op) := by
  rw [State.placeWord, s.readyToFetch_of_aboutToFetch h, s.atFetchablePc_of_pc_le hpc]

/-- Settles O43: the word is placed where the next step fetches, and the reset state is about to fetch. -/
theorem placedWordIsFetchedNext : Obligations.PlacedWordIsFetchedNext := by
  refine ⟨fun s nbits w h => ⟨s.placeWord_aboutToFetch _, s.placeWord_fetch _ h⟩, fun w => ?_⟩
  rw [State.withFetchWord, State.placeWord_of_aboutToFetch _ _ (by decide) (by decide)]
  rfl

end Sys2Proof.Machine
end

section
/-!
PROOFS. The decoder, the encoder and the opcode map are one table (spec/30_encoding.md R90 to R98).

What the two-level dispatch can answer is said once (`decodeWord_answer`): the instruction whose word was dispatched on,
or the rejection of a word of R96's table. The statements about words follow from it.
-/

namespace Sys2Proof

open Machine (formatI_fields)

variable {op : Word} {c x y n : Nibble} {kk : Byte} {nnn : Addr} {r r' : OpcodeRow}

/-! ## A word is put together from its fields (R91, R92) -/

theorem formatA_of_fieldC (hc : fieldC op = c) : formatA c (fieldNNN op) = op := by
  subst hc
  refine BitVec.eq_of_getLsbD_eq fun i hi => ?_
  interval_cases i <;> simp [formatA, fieldAt, fieldC, fieldNNN]

theorem formatI_of_fields (hc : fieldC op = c) (hk : fieldKK op = kk) : formatI c (fieldX op) kk = op := by
  rw [← hc, ← hk, formatI_fields]

theorem formatR_of_fields (hc : fieldC op = c) (hn : fieldN op = n) :
    formatR c (fieldX op) (fieldY op) n = op := by
  subst hc hn
  refine BitVec.eq_of_getLsbD_eq fun i hi => ?_
  interval_cases i <;> simp [formatR, fieldAt, fieldC, fieldX, fieldY, fieldN]

/-! ## What the dispatch can answer (R94, R95, R96) -/

/-- R96's table: a word of class 0, 8, E or F with a secondary value that has no instruction. -/
def Unlisted (op : Word) : Prop :=
  (fieldC op = 0x0 ∧ fieldKK op ∉ [0xE0, 0xEE]) ∨
  (fieldC op = 0x8 ∧ fieldN op ∈ [0x8, 0x9, 0xA, 0xB, 0xC, 0xD, 0xF]) ∨
  (fieldC op = 0xE ∧ fieldKK op ∉ [0x9E, 0xA1]) ∨
  (fieldC op = 0xF ∧ fieldKK op ∉ [0x07, 0x0A, 0x15, 0x18, 0x1E, 0x29, 0x33, 0x55, 0x65])

/-- The answers the dispatch has for `op`: the instruction whose word `op` is, or the rejection of an unlisted word. -/
inductive DispatchAnswer (op : Word) : Except DecodeError Instr → Prop
  | instr (i : Instr) (h : encode i = op) : DispatchAnswer op (.ok i)
  | unlisted (h : Unlisted op) : DispatchAnswer op (.error (.unrecognized op))

theorem DispatchAnswer.ite {p : Prop} [Decidable p] {a b : Except DecodeError Instr}
    (ha : p → DispatchAnswer op a) (hb : ¬ p → DispatchAnswer op b) : DispatchAnswer op (if p then a else b) := by
  split
  · exact ha ‹p›
  · exact hb ‹¬ p›

theorem decodeClass0_answer (hc : fieldC op = 0x0) : DispatchAnswer op (decodeClass0 op) := by
  unfold decodeClass0
  iterate 2 refine .ite (fun hk => .instr _ (formatI_of_fields hc hk)) fun _ => ?_
  exact .unlisted (.inl ⟨hc, by simp [*]⟩)

theorem decodeClass8_answer (hc : fieldC op = 0x8) : DispatchAnswer op (decodeClass8 op) := by
  unfold decodeClass8
  iterate 9 refine .ite (fun hn => .instr _ (formatR_of_fields hc hn)) fun _ => ?_
  exact .unlisted (.inr (.inl ⟨hc, by simp only [List.mem_cons, List.not_mem_nil, or_false]; bv_omega⟩))

theorem decodeClassE_answer (hc : fieldC op = 0xE) : DispatchAnswer op (decodeClassE op) := by
  unfold decodeClassE
  iterate 2 refine .ite (fun hk => .instr _ (formatI_of_fields hc hk)) fun _ => ?_
  exact .unlisted (.inr (.inr (.inl ⟨hc, by simp [*]⟩)))

theorem decodeClassF_answer (hc : fieldC op = 0xF) : DispatchAnswer op (decodeClassF op) := by
  unfold decodeClassF
  iterate 9 refine .ite (fun hk => .instr _ (formatI_of_fields hc hk)) fun _ => ?_
  exact .unlisted (.inr (.inr (.inr ⟨hc, by simp [*]⟩)))

/-- What the decoder can answer for a word, whatever its class. -/
theorem decodeWord_answer (op : Word) : DispatchAnswer op (decodeWord op) := by
  unfold decodeWord
  refine .ite decodeClass0_answer fun h0 => ?_
  refine .ite (fun h1 => .instr _ (formatA_of_fieldC h1)) fun h1 => ?_
  refine .ite (fun h2 => .instr _ (formatA_of_fieldC h2)) fun h2 => ?_
  refine .ite (fun h3 => .instr _ (formatI_of_fields h3 rfl)) fun h3 => ?_
  refine .ite (fun h4 => .instr _ (formatI_of_fields h4 rfl)) fun h4 => ?_
  refine .ite (fun h5 => .instr _ (formatR_of_fields h5 rfl)) fun h5 => ?_
  refine .ite (fun h6 => .instr _ (formatI_of_fields h6 rfl)) fun h6 => ?_
  refine .ite (fun h7 => .instr _ (formatI_of_fields h7 rfl)) fun h7 => ?_
  refine .ite decodeClass8_answer fun h8 => ?_
  refine .ite (fun h9 => .instr _ (formatR_of_fields h9 rfl)) fun h9 => ?_
  refine .ite (fun hA => .instr _ (formatA_of_fieldC hA)) fun hA => ?_
  refine .ite (fun hB => .instr _ (formatA_of_fieldC hB)) fun hB => ?_
  refine .ite (fun hC => .instr _ (formatI_of_fields hC rfl)) fun hC => ?_
  refine .ite (fun hD => .instr _ (formatR_of_fields hD rfl)) fun hD => ?_
  refine .ite decodeClassE_answer fun hE => ?_
  exact decodeClassF_answer (by bv_omega)

/-! ## Round trips (R90 to R97) -/

@[simp] theorem decodeWord_encode (i : Instr) : decodeWord (encode i) = .ok i := by
  cases i <;> simp [encode, decodeWord, decodeClass0, decodeClass8, decodeClassE, decodeClassF]

/-- Settles O1: the bytes of a word are put together to the word, which decodes to its instruction. -/
theorem decodeOfEncodeIsIdentity : Obligations.DecodeOfEncodeIsIdentity := by
  intro i rest
  simp [encodeBytes, bytesOfWord, decode]

/-- A word is an instruction's, or it is unlisted and rejected as unrecognized. -/
theorem encode_or_unlisted (op : Word) :
    (∃ i, encode i = op) ∨ decodeWord op = .error (.unrecognized op) ∧ Unlisted op := by
  have answer := decodeWord_answer op
  generalize decodeWord op = d at answer
  cases answer with
  | instr i h => exact .inl ⟨i, h⟩
  | unlisted h => exact .inr ⟨rfl, h⟩

/-- Settles O2: the word is an instruction's, and that instruction is what it decodes to. -/
theorem encodeOfDecodeIsIdentity : Obligations.EncodeOfDecodeIsIdentity := by
  intro op i h
  obtain ⟨j, rfl⟩ | ⟨herr, -⟩ := encode_or_unlisted op
  · cases (decodeWord_encode j).symm.trans h
    rfl
  · cases herr.symm.trans h

/-! ## The unrecognized words (R96) -/

theorem not_unlisted_encode (i : Instr) : ¬ Unlisted (encode i) := by
  cases i <;> simp [Unlisted, encode]

/-- Settles O4: a word is an instruction's, which is not in the table, or it is in the table and unrecognized. -/
theorem unrecognizedWordsAreTheTable : Obligations.UnrecognizedWordsAreTheTable := by
  intro op
  change _ ↔ Unlisted op
  obtain ⟨i, rfl⟩ | ⟨herr, hu⟩ := encode_or_unlisted op
  · simp [not_unlisted_encode]
  · simp [herr, hu]

/-! ## The rows of the opcode map are disjoint (R97) -/

theorem covers_iff : r.covers op = true ↔ op &&& r.mask = r.pattern := beq_iff_eq

/-- Two rows that cover one word ask the same of the bits that both their masks keep. -/
theorem pattern_and_mask_of_covers (h : r.covers op = true) (h' : r'.covers op = true) :
    r.pattern &&& r'.mask = r'.pattern &&& r.mask := by
  rw [← covers_iff.mp h, ← covers_iff.mp h', BitVec.and_assoc, BitVec.and_assoc, BitVec.and_comm r.mask]

/-- No word is covered by both rows. -/
def OpcodeRow.Disjoint (r r' : OpcodeRow) : Prop := ∀ op : Word, r.covers op = true → r'.covers op ≠ true

theorem opcodeMap_pairwise_disjoint : opcodeMap.Pairwise OpcodeRow.Disjoint := by
  have hdiff : opcodeMap.Pairwise fun r r' => r.pattern &&& r'.mask ≠ r'.pattern &&& r.mask := by decide
  exact hdiff.imp fun hne _ h h' => hne (pattern_and_mask_of_covers h h')

theorem eq_singleton_of_covers {rows : List OpcodeRow} (hdisj : rows.Pairwise OpcodeRow.Disjoint)
    (hcov : ∀ q ∈ rows, q.covers op = true) (hr : r ∈ rows) : rows = [r] := by
  match rows with
  | [q] => rw [List.mem_singleton.mp hr]
  | q :: q' :: rest =>
    exact absurd (hcov q' (by simp)) (List.rel_of_pairwise_cons hdisj (by simp) op (hcov q (by simp)))

/-- The row that covers a word is the only one. -/
theorem filter_covers_eq_singleton (hr : r ∈ opcodeMap) (h : r.covers op = true) :
    opcodeMap.filter (·.covers op) = [r] :=
  eq_singleton_of_covers (opcodeMap_pairwise_disjoint.filter _) (fun _ hq => (List.mem_filter.mp hq).2)
    (List.mem_filter_of_mem hr h)

/-! ## Every instruction is in its row, and a word of R96's table in none -/

theorem encode_inItsRow (i : Instr) : Laws.InItsRow.Statement i := by
  open Laws.InItsRow in
  cases i
  exacts [cls _, ret _, jp _, call _, seImm _ _, sneImm _ _, seReg _ _ _, ldImm _ _, addImm _ _, ldReg _ _, orReg _ _,
    andReg _ _, xorReg _ _, addReg _ _, subReg _ _, shr _ _, subn _ _, shl _ _, sneReg _ _ _, ldI _, jpV0 _, rnd _ _,
    drw _ _ _, skp _, sknp _, ldVxDt _, ldVxK _, ldDtVx _, ldStVx _, addI _, ldF _, ldB _, ldMemVx _, ldVxMem _]

/-- A field that a row's mask keeps whole reads as in the row's pattern, for every word the row covers. -/
theorem extractLsb'_of_covers {lo len : Nat} (h : r.covers op = true)
    (hmask : r.mask.extractLsb' lo len = BitVec.allOnes len) :
    op.extractLsb' lo len = r.pattern.extractLsb' lo len := by
  rw [← covers_iff.mp h, BitVec.extractLsb'_and, hmask, BitVec.and_allOnes]

theorem fieldC_of_covers (hr : r ∈ opcodeMap) (h : r.covers op = true) : fieldC op = fieldC r.pattern := by
  have hmask : ∀ r ∈ opcodeMap, fieldC r.mask = BitVec.allOnes 4 := by decide
  exact extractLsb'_of_covers h (hmask r hr)

theorem fieldKK_of_covers (h : r.covers op = true) (hmask : fieldKK r.mask = BitVec.allOnes 8) :
    fieldKK op = fieldKK r.pattern := extractLsb'_of_covers h hmask

theorem fieldN_of_covers (h : r.covers op = true) (hmask : fieldN r.mask = BitVec.allOnes 4) :
    fieldN op = fieldN r.pattern := extractLsb'_of_covers h hmask

/-! The secondary values of R95: in these classes a row's mask keeps the low byte, or in class 8 the low nibble, and its
pattern there is none of R96's table. -/

theorem opcodeMap_class0 : ∀ r ∈ opcodeMap, fieldC r.pattern = 0x0 →
    fieldKK r.mask = BitVec.allOnes 8 ∧ fieldKK r.pattern ∈ [0xE0, 0xEE] := by decide

theorem opcodeMap_class8 : ∀ r ∈ opcodeMap, fieldC r.pattern = 0x8 →
    fieldN r.mask = BitVec.allOnes 4 ∧ fieldN r.pattern ∉ [0x8, 0x9, 0xA, 0xB, 0xC, 0xD, 0xF] := by decide

theorem opcodeMap_classE : ∀ r ∈ opcodeMap, fieldC r.pattern = 0xE →
    fieldKK r.mask = BitVec.allOnes 8 ∧ fieldKK r.pattern ∈ [0x9E, 0xA1] := by decide

theorem opcodeMap_classF : ∀ r ∈ opcodeMap, fieldC r.pattern = 0xF → fieldKK r.mask = BitVec.allOnes 8 ∧
    fieldKK r.pattern ∈ [0x07, 0x0A, 0x15, 0x18, 0x1E, 0x29, 0x33, 0x55, 0x65] := by decide

theorem not_unlisted_of_covers (hr : r ∈ opcodeMap) (h : r.covers op = true) : ¬ Unlisted op := by
  have hc := fieldC_of_covers hr h
  rintro (⟨h0, hk⟩ | ⟨h8, hn⟩ | ⟨hE, hk⟩ | ⟨hF, hk⟩)
  · obtain ⟨hmask, hp⟩ := opcodeMap_class0 r hr (hc ▸ h0)
    exact hk (fieldKK_of_covers h hmask ▸ hp)
  · obtain ⟨hmask, hp⟩ := opcodeMap_class8 r hr (hc ▸ h8)
    exact hp (fieldN_of_covers h hmask ▸ hn)
  · obtain ⟨hmask, hp⟩ := opcodeMap_classE r hr (hc ▸ hE)
    exact hk (fieldKK_of_covers h hmask ▸ hp)
  · obtain ⟨hmask, hp⟩ := opcodeMap_classF r hr (hc ▸ hF)
    exact hk (fieldKK_of_covers h hmask ▸ hp)

theorem filter_covers_of_unlisted (hu : Unlisted op) : opcodeMap.filter (·.covers op) = [] :=
  List.filter_eq_nil_iff.mpr fun _ hr h => not_unlisted_of_covers hr h hu

/-- Settles O3: an instruction's word is covered by its own row and, rows being disjoint, by no other; any other word
is in R96's table, and no row covers it. -/
theorem decoderAgreesWithOpcodeMap : Obligations.DecoderAgreesWithOpcodeMap := by
  intro op
  obtain ⟨i, rfl⟩ | ⟨herr, hu⟩ := encode_or_unlisted op
  · obtain ⟨r, hr, hmnem, hcov⟩ := encode_inItsRow i
    simp [filter_covers_eq_singleton hr (covers_iff.mpr hcov), hmnem]
  · simp [filter_covers_of_unlisted hu, herr]

/-! ## Words written out (R91, R96, R97) -/

/-- Settles O5: ten words of the opcode map, each the word its constructor was tested with, and two of R96's table. -/
theorem wordsOfTheSpecDecode : Obligations.WordsOfTheSpecDecode :=
  ⟨decodes_jp, decodes_ret, decodes_seReg, decodes_addImm, decodes_shr, decodes_ldI, decodes_drw, decodes_skp,
    decodes_ldB, decodes_ldVxMem, by decide, by decide⟩

end Sys2Proof
end

section
/-!
PROOFS. What one STEP answers: the fetch fault, the unrecognized opcode, the instruction, and the TICK's bookkeeping
around it (spec/40_cycle.md R122 to R126, R128).
-/

namespace Sys2Proof.Machine

variable {s t : State} {op : Word} {i : Instr}

/-! ## One STEP (R122, R123, R125) -/

theorem instrStep_of_fetch_none (h : s.fetch = none) : instrStep s = .next s.raiseFetch := by
  simp only [instrStep, h]

theorem instrStep_of_decode_error {e : DecodeError} (hop : s.fetch = some op) (hd : decodeWord op = .error e) :
    instrStep s = .next (s.advance.unrecognized op) := by
  simp only [instrStep, hop, hd]

theorem instrStep_of_decode_ok (hop : s.fetch = some op) (hd : decodeWord op = .ok i) :
    instrStep s = exec i s.advance := by
  simp only [instrStep, hop, hd]

/-- Settles O38: above 4094 there is no word to fetch. -/
theorem fetchAboveMemoryFaults : Obligations.FetchAboveMemoryFaults :=
  fun s hpc => instrStep_of_fetch_none (s.fetch_none hpc)

/-- Settles O41: the word's address, computed back from the PC after fetch, is the PC before it. -/
theorem unrecognizedOpcodeIsAnEvent : Obligations.UnrecognizedOpcodeIsAnEvent := by
  intro s op e hop hd
  rw [instrStep_of_decode_error hop hd, State.unrecognized, State.advance_instrAddr]
  rfl

/-! ## The STEP a machine step makes (R120, R126, R232) -/

theorem decodeWord_of_decode_pair {hi lo : Byte} (h : decode [hi, lo] = .ok (i, [])) :
    decodeWord (wordOfBytes hi lo) = .ok i := by
  unfold decode at h
  cases hd : decodeWord (wordOfBytes hi lo) with
  | ok j =>
    simp only [hd] at h
    cases h
    rfl
  | error e => simp [hd] at h

theorem step_of_inTick (h : s.inTick = true) : step s = burstStep s.burst s := by
  rw [step, cycle, if_pos h]

theorem step_of_no_command (h : s.inTick = false) (hi : s.inbox = []) : step s = beginTick s := by
  rw [step, cycle, if_neg (by simp [h]), hi]

theorem beginTick_of_awake (hf : s.faulted = false) (hp : s.paused = false) :
    beginTick s = if s.cfg.clockSpeed = 0 then .next (timerStep s) else burstStep s.cfg.clockSpeed s := by
  simp [beginTick, hf, hp]

theorem tick_of_awake (hf : s.faulted = false) (hp : s.paused = false) : tick s = runBurst s.cfg.clockSpeed s := by
  simp [tick, hf, hp]

/-- A state about to fetch makes one STEP of the TICK in progress, or of the one the host issues. -/
theorem step_of_aboutToFetch (h : s.aboutToFetch = true) :
    step s = burstStep (if s.inTick then s.burst else s.cfg.clockSpeed) s := by
  cases hin : s.inTick with
  | true => exact step_of_inTick hin
  | false =>
    obtain ⟨⟨⟨hi, hf⟩, hp⟩, hc⟩ : ((s.inbox = [] ∧ s.faulted = false) ∧ s.paused = false) ∧ s.cfg.clockSpeed ≠ 0 := by
      simpa [State.aboutToFetch, hin] using h
    rw [step_of_no_command hin hi, beginTick_of_awake hf hp, if_neg hc]
    rfl

theorem burstStep_of_instrStep (h : instrStep s = .next t) (left : Nat) :
    burstStep left s = .next (endOfStep left t) := by
  simp only [burstStep, h]

/-- Settles O40: the step is the end of a STEP (`endOfStep`), whose three cases are the three clauses. -/
theorem stepRunsDecodedInstruction : Obligations.StepRunsDecodedInstruction := by
  intro s t i habout hpc hdec hexec left
  have hinstr : instrStep s = .next t :=
    (instrStep_of_decode_ok (s.fetch_some hpc) (decodeWord_of_decode_pair hdec)).trans hexec
  have hstep : step s = .next (endOfStep left t) :=
    (step_of_aboutToFetch habout).trans (burstStep_of_instrStep hinstr left)
  refine ⟨fun hf => ?_, fun hf hl => ?_, fun hf hl => ?_⟩
  · rw [hstep, endOfStep_faulted hf]
    rfl
  · rw [hstep, hl, endOfStep_last hf]
    rfl
  · obtain ⟨k, hk⟩ : ∃ k, left = k + 2 := ⟨left - 2, by omega⟩
    rw [hstep, hk, endOfStep_more hf]
    rfl

/-! ## Every step answers a next state (R98, R128, R232) -/

theorem guarded_answers_next (u : Option Trap) (op : Word) (s e : State) : ∃ t, guarded u op s e = .next t := by
  rcases guarded_cases s u op e with ⟨-, h⟩ | ⟨v, -, h⟩
  · exact ⟨e, h⟩
  · exact ⟨s.raise v op, h⟩

theorem execRet_answers_next (ign : Nibble) (s : State) : ∃ t, execRet ign s = .next t := by
  unfold execRet
  cases s.pop with
  | none => exact ⟨_, rfl⟩
  | some p => exact ⟨_, rfl⟩

theorem execCall_answers_next (nnn : Addr) (s : State) : ∃ t, execCall nnn s = .next t := by
  unfold execCall
  cases s.push s.pc with
  | none => exact ⟨_, rfl⟩
  | some t => exact ⟨_, rfl⟩

/-- The arms named here check before they act, and a check that fails is a fault taken into the latch; every other is
one composition of State's updates. -/
theorem exec_answers_next (i : Instr) (s : State) : ∃ t, exec i s = .next t := by
  cases i with
  | ret ign => exact execRet_answers_next ign s
  | call nnn => exact execCall_answers_next nnn s
  | skp x => exact guarded_answers_next _ _ s _
  | sknp x => exact guarded_answers_next _ _ s _
  | drw x y n => exact guarded_answers_next _ _ s _
  | ldB x => exact guarded_answers_next _ _ s _
  | ldMemVx x => exact guarded_answers_next _ _ s _
  | ldVxMem x => exact guarded_answers_next _ _ s _
  | _ => exact ⟨_, rfl⟩

theorem instrStep_answers_next (s : State) : ∃ t, instrStep s = .next t := by
  cases hop : s.fetch with
  | none => exact ⟨_, instrStep_of_fetch_none hop⟩
  | some op =>
    cases hd : decodeWord op with
    | error e => exact ⟨_, instrStep_of_decode_error hop hd⟩
    | ok i =>
      rw [instrStep_of_decode_ok hop hd]
      exact exec_answers_next i s.advance

theorem burstStep_answers_next (left : Nat) (s : State) : ∃ t, burstStep left s = .next t := by
  obtain ⟨t, ht⟩ := instrStep_answers_next s
  exact ⟨_, burstStep_of_instrStep ht left⟩

theorem beginTick_answers_next (s : State) : ∃ t, beginTick s = .next t := by
  unfold beginTick
  split
  · exact ⟨s, rfl⟩
  · split
    · exact ⟨timerStep s, rfl⟩
    · exact burstStep_answers_next _ s

theorem deliver_answers_next (c : Command) (s : State) : ∃ t, deliver c s = .next t := by
  cases c with
  | reset => exact ⟨_, rfl⟩
  | load program => exact ⟨_, rfl⟩
  | tick => exact beginTick_answers_next s
  | setKey id pressed => exact ⟨_, rfl⟩

/-- Settles O42: a step is a STEP of a TICK or the delivery of a command, and each answers a next state. -/
theorem stepAlwaysAnswersNext : Obligations.StepAlwaysAnswersNext := by
  intro s
  unfold step cycle
  split
  · exact burstStep_answers_next _ s
  · split
    · exact deliver_answers_next _ _
    · exact beginTick_answers_next s

end Sys2Proof.Machine
end

section
/-!
PROOFS. TICK: its timer step, its burst by machine steps, and the burst that stops early (spec/40_cycle.md R120, R121,
R126, R127).
-/

namespace Sys2Proof.Machine

variable {s t : State}

/-! ## The timer step (R126) -/

theorem countDown_toNat (b : Byte) : (countDown b).toNat = b.toNat - 1 := by
  unfold countDown
  split
  · rename_i h
    simp [h]
  · bv_omega

/-- Settles O44: subtraction of natural numbers stops at 0 as `countDown` does. -/
theorem timerStepCountsDown : Obligations.TimerStepCountsDown :=
  fun s => ⟨countDown_toNat s.dt, countDown_toNat s.st, rfl⟩

/-! ## A TICK by machine steps (R120, R121) -/

/-- From an idle state the TICK the host issues is some number of machine steps, `max 1 CLOCK_SPEED` unless it faults. -/
theorem runsTo_of_tick (hb : s.burst = 0) (hi : s.inbox = []) (hf : s.faulted = false) (hp : s.paused = false)
    (h : tick s = .next t) :
    ∃ k, 1 ≤ k ∧ k ≤ max 1 s.cfg.clockSpeed ∧ (t.faulted = false → k = max 1 s.cfg.clockSpeed) ∧ RunsTo k s t := by
  have hstep : step s = beginTick s := step_of_no_command (by simp [State.inTick, hb]) hi
  rw [beginTick_of_awake hf hp] at hstep
  rw [tick_of_awake hf hp] at h
  cases hc : s.cfg.clockSpeed with
  | zero =>
    rw [hc] at h hstep
    exact ⟨1, le_rfl, le_rfl, fun _ => rfl, timerStep s, hstep, Host.Outcome.next.inj h⟩
  | succ n =>
    rw [hc] at h hstep
    obtain ⟨m, k, hm, hk, hkn, hrun⟩ := burstStep_runsTo_of_runBurst n hb h
    refine ⟨k + 1, by omega, by omega, fun hft => ?_, m, hstep.trans hm, hrun⟩
    rw [hkn hft]
    omega

/-- Settles O45: the count of `runsTo_of_tick` is exact when the TICK does not fault. -/
theorem burstOfStepsReachesTick : Obligations.BurstOfStepsReachesTick := by
  intro s t hb hi hf hp h
  obtain ⟨k, hk1, hk, hexact, hrun⟩ := runsTo_of_tick hb hi hf hp h
  exact ⟨fun hft => hexact hft ▸ hrun, fun _ => ⟨k, hk1, hk, hrun⟩⟩

/-! ## A wait-for-key instruction ends what a burst does (R127, R215) -/

/-- Fetch moves PC past the instruction and the instruction moves it back: only the two flags are written. -/
theorem instrStep_of_ldVxK {op : Word} {x : Nibble} (hop : s.fetch = some op) (hd : decodeWord op = .ok (.ldVxK x)) :
    instrStep s = .next (s.setWait true) := by
  rw [instrStep_of_decode_ok hop hd]
  show Host.Outcome.next ((s.advance.setWait true).setPc s.advance.instrAddr) = _
  rw [State.advance_instrAddr]
  rfl

/-- Only a wait-for-key instruction sets PAUSED. -/
theorem ldVxK_of_sets_paused (h : instrStep s = .next t) (hs : s.paused = false) (ht : t.paused = true) :
    ∃ op x, s.fetch = some op ∧ decodeWord op = .ok (.ldVxK x) := by
  rcases instrStep_cases h with ⟨-, rfl⟩ | ⟨op, e, -, -, rfl⟩ | ⟨op, i, hop, hd, hx⟩
  · exact absurd ht (by simp [State.raiseFetch, hs])
  · exact absurd ht (by simp [State.unrecognized, hs])
  · by_contra hno
    obtain ⟨hpaused, -⟩ := exec_wait_frame hx fun x hi => hno ⟨op, x, hop, hi ▸ hd⟩
    simp [hpaused, hs] at ht

/-- A STEP that sets PAUSED ends in a state that further STEPs leave as it is: they run the same instruction again. -/
theorem instrStep_eq_self_of_sets_paused (h : instrStep s = .next t) (hs : s.paused = false) (ht : t.paused = true) :
    instrStep t = .next t := by
  obtain ⟨op, x, hop, hd⟩ := ldVxK_of_sets_paused h hs ht
  cases (instrStep_of_ldVxK hop hd).symm.trans h
  exact instrStep_of_ldVxK (s := s.setWait true) hop hd

theorem runBurst_of_instrStep_eq_self (h : instrStep t = .next t) (hf : t.faulted = false) (n : Nat) :
    runBurst n t = .next (timerStep t) := by
  induction n with
  | zero => rfl
  | succ n ih => simp [runBurst, h, hf, ih]

/-- Settles O47: by induction on the steps of the burst; past the first that sets PAUSED the full burst changes nothing
before its timer step. -/
theorem earlyExitEqualsFullBurst : Obligations.EarlyExitEqualsFullBurst := by
  intro n
  induction n with
  | zero => exact fun s _ => rfl
  | succ n ih =>
    intro s hs
    obtain ⟨t, h⟩ := instrStep_answers_next s
    simp only [runBurstEarly, runBurst, h]
    cases hf : t.faulted with
    | true => rfl
    | false =>
      cases hp : t.paused with
      | true => exact (runBurst_of_instrStep_eq_self (instrStep_eq_self_of_sets_paused h hs hp) hf n).symm
      | false => exact ih t hp

end Sys2Proof.Machine
end

section
/-!
PROOFS. Control transfer (spec/41_flow.md R140 to R148): jumps and skips write PC alone; call and return write PC and
the stack, or take a fault.
-/

namespace Sys2Proof.Machine

variable (s : State)

/-! ## Jumps (R141, R143) -/

theorem zextAddr_toNat (nnn : Addr) : (zextAddr nnn).toNat = nnn.toNat := by
  have := nnn.isLt
  simp only [zextAddr, BitVec.toNat_setWidth]
  omega

/-- At most 0xFFF + 0xFF: the 16-bit sum does not wrap. -/
theorem zextAddr_add_zextByte_toNat (nnn : Addr) (b : Byte) :
    (zextAddr nnn + zextByte b).toNat = nnn.toNat + b.toNat := by
  have := nnn.isLt
  have := b.isLt
  simp only [zextAddr, zextByte, BitVec.toNat_add, BitVec.toNat_setWidth]
  omega

theorem onlyPc_setPc (w : Word) : OnlyPc s (s.setPc w) := ⟨rfl, fun _ => rfl⟩

/-- Settles O13: the jump is one write of PC. -/
theorem jumpSetsPc : Obligations.JumpSetsPc :=
  fun nnn s => ⟨s.setPc (zextAddr nnn), rfl, zextAddr_toNat nnn, onlyPc_setPc s _⟩

/-- Settles O14: the sum is exact in 16 bits, so above 4094 it is a PC with no word to fetch. -/
theorem jumpWithOffset : Obligations.JumpWithOffset := by
  intro nnn s
  have hpc := zextAddr_add_zextByte_toNat nnn (s.reg 0)
  refine ⟨s.setPc (zextAddr nnn + zextByte (s.reg 0)), rfl, hpc, onlyPc_setPc s _, fun habove => ?_⟩
  exact State.fetch_none _ (hpc ▸ habove)

/-! ## Skips (R144 to R147) -/

/-- An instruction that is a skip on `c` moves PC on exactly when what `c` tests holds. -/
theorem skips_iff {i : Instr} {c : Bool} {p : Prop} [Decidable p] (hi : exec i s = .next (s.skipIf c))
    (hc : c = true ↔ p) : ∃ t, exec i s = .next t ∧ t.pc = (if p then s.pc + 2 else s.pc) ∧ OnlyPc s t := by
  rw [State.skipIf_eq] at hi
  exact ⟨_, hi, if_congr hc rfl rfl, onlyPc_setPc s _⟩

/-- Settles O15: both are skips, on the equality and on its negation. -/
theorem skipOnImmediate : Obligations.SkipOnImmediate :=
  fun _ _ s => ⟨skips_iff s rfl beq_iff_eq, skips_iff s rfl bne_iff_ne⟩

/-- Settles O16: neither skip reads the ignored nibble. -/
theorem skipOnRegisters : Obligations.SkipOnRegisters :=
  fun _ _ _ s => ⟨skips_iff s rfl beq_iff_eq, skips_iff s rfl bne_iff_ne⟩

/-! ## Call and return (R140, R142) -/

theorem exec_call_of_free (nnn : Addr) (h : s.sp.val < 16) :
    exec (.call nnn) s =
      .next ((s.setStack (s.stack.set s.sp.val s.pc h) ⟨s.sp.val + 1, Nat.succ_lt_succ h⟩).setPc (zextAddr nnn)) := by
  simp only [exec, execCall, State.push_some s h]

theorem exec_call_of_full (nnn : Addr) (h : s.sp.val = 16) :
    exec (.call nnn) s = .next (faultedFrom s .stackOverflow (encode (.call nnn)) 0) := by
  simp only [exec, execCall, State.push_none s (Fin.ext h)]
  rfl

theorem State.pop_of_sp_eq_succ {k : Fin 16} (h : s.sp.val = k.val + 1) :
    s.pop = some (s.stack[k], s.setStack s.stack k.castSucc) := by
  have hk : s.sp.val - 1 = k.val := by omega
  rw [State.pop_some s (by omega) (by omega)]
  simp only [hk]
  rfl

theorem exec_ret_of_inUse (ign : Nibble) {k : Fin 16} (h : s.sp.val = k.val + 1) :
    exec (.ret ign) s = .next ((s.setStack s.stack k.castSucc).setPc s.stack[k]) := by
  simp only [exec, execRet, State.pop_of_sp_eq_succ s h]

theorem exec_ret_of_empty (ign : Nibble) (h : s.sp.val = 0) :
    exec (.ret ign) s = .next (faultedFrom s .stackUnderflow (encode (.ret ign)) 0) := by
  simp only [exec, execRet, State.pop_none s (Fin.ext h)]
  rfl

/-- Settles O17: by whether an entry is free; the push writes one entry, the one at SP. -/
theorem callPushesReturnAddress : Obligations.CallPushesReturnAddress := by
  intro nnn s
  refine ⟨fun h => ?_, exec_call_of_full s nnn⟩
  refine ⟨_, exec_call_of_free s nnn h, zextAddr_toNat nnn, rfl, ?_, fun k hk => ?_, rfl, fun _ => rfl⟩
  · exact Vector.getElem_set_self h
  · exact Vector.getElem_set_ne h k.isLt hk.symm

/-- Settles O18: by whether an entry is in use; the pop writes no entry. -/
theorem returnPopsNewestEntry : Obligations.ReturnPopsNewestEntry :=
  fun ign s => ⟨fun _ h => ⟨_, exec_ret_of_inUse s ign h, rfl, rfl, rfl, fun _ => rfl⟩, exec_ret_of_empty s ign⟩

/-- Settles O19: the entry that the return pops is the one that the call pushed. -/
theorem callThenReturn : Obligations.CallThenReturn := by
  intro nnn ign s h
  obtain ⟨hpush, -⟩ := callPushesReturnAddress nnn s
  obtain ⟨t, hcall, -, htsp, htop, -⟩ := hpush h
  refine ⟨t, hcall, fun u hstack husp => ?_⟩
  obtain ⟨hpop, -⟩ := returnPopsNewestEntry ign u
  obtain ⟨w, hret, hpc, hwsp, -⟩ := hpop ⟨s.sp.val, h⟩ (husp ▸ htsp)
  refine ⟨w, hret, ?_, Fin.ext hwsp⟩
  calc w.pc = u.stack[s.sp.val] := hpc
    _ = t.stack[s.sp.val] := by rw [hstack]
    _ = s.pc := htop

end Sys2Proof.Machine
end

section
/-!
PROOFS. Register loads and 8-bit arithmetic and logic (spec/42_alu.md R160 to R172): an instruction is one register
write or the two of a result and a flag, and the second of two writes is the one that remains (R172).
-/

namespace Sys2Proof.Machine

variable (s : State) (x : Nibble) (r f : Byte)

/-! ## The registers written, and the frame -/

theorem onlyRegs_setReg : OnlyRegs s (s.setReg x r) [x] :=
  ⟨s.setReg_eq x r, fun _ hy => s.reg_setReg_ne (List.ne_of_not_mem_cons hy) r, fun _ => rfl⟩

theorem onlyRegs_resultThenFlag : OnlyRegs s (s.resultThenFlag x r f) [x, flagReg] := by
  refine ⟨s.resultThenFlag_eq x r f, fun y hy => ?_, fun _ => rfl⟩
  obtain ⟨hx, hF⟩ : y ≠ x ∧ y ≠ flagReg := by simpa using hy
  rw [State.resultThenFlag_reg, if_neg hF, if_neg hx]

theorem onlyRegs_flagThenResult : OnlyRegs s (s.flagThenResult x r f) [x, flagReg] := by
  refine ⟨s.flagThenResult_eq x r f, fun y hy => ?_, fun _ => rfl⟩
  obtain ⟨hx, hF⟩ : y ≠ x ∧ y ≠ flagReg := by simpa using hy
  rw [State.flagThenResult_reg, if_neg hx, if_neg hF]

@[simp] theorem State.resultThenFlag_flag : (s.resultThenFlag x r f).reg flagReg = f := by
  rw [State.resultThenFlag_reg, if_pos rfl]

@[simp] theorem State.flagThenResult_result : (s.flagThenResult x r f).reg x = r := by
  rw [State.flagThenResult_reg, if_pos rfl]

section
variable {x} (hx : x ≠ flagReg)
include hx

theorem State.resultThenFlag_result : (s.resultThenFlag x r f).reg x = r := by
  rw [State.resultThenFlag_reg, if_neg hx, if_pos rfl]

theorem State.flagThenResult_flag : (s.flagThenResult x r f).reg flagReg = f := by
  rw [State.flagThenResult_reg, if_neg hx.symm, if_pos rfl]

end

/-! ## Flag values (R171) -/

theorem flagOf_decide (p : Prop) [Decidable p] : flagOf (decide p) = if p then 1 else 0 := by
  by_cases h : p <;> simp [flagOf, h]

theorem flagOf_toNat (c : Bool) : (flagOf c).toNat = c.toNat := by
  cases c <;> rfl

theorem lowBitFlag_toNat (a : Byte) : (lowBitFlag a).toNat = a.toNat % 2 := by
  rw [lowBitFlag, flagOf_toNat, BitVec.getLsbD, Nat.toNat_testBit, Nat.pow_zero, Nat.div_one]

theorem highBitFlag_toNat (a : Byte) : (highBitFlag a).toNat = a.toNat / 128 := by
  have := a.isLt
  rw [highBitFlag, flagOf_toNat, BitVec.getLsbD, Nat.toNat_testBit]
  omega

/-! ## One register written (R160 to R162) -/

/-- Settles O6: one register write. -/
theorem loadImmediate : Obligations.LoadImmediate :=
  fun x kk s => ⟨s.setReg x kk, rfl, s.reg_setReg_same x kk, onlyRegs_setReg s x kk⟩

/-- Settles O7: one register write, of the sum of two bytes. -/
theorem addImmediate : Obligations.AddImmediate := by
  refine fun x kk s => ⟨s.setReg x (s.reg x + kk), rfl, ?_, onlyRegs_setReg s x _⟩
  rw [State.reg_setReg_same, BitVec.toNat_add]

/-- Settles O8: one register write, also when Vy is the flag register. -/
theorem registerSet : Obligations.RegisterSet :=
  fun x y s => ⟨s.setReg x (s.reg y), rfl, s.reg_setReg_same x _, onlyRegs_setReg s x _⟩

/-! ## The result, then the flag (R163 to R166) -/

/-- What an instruction that writes its result and then its flag does: the flag always remains. -/
theorem writes_result_then_flag {i : Instr} {s : State} {x : Nibble} {r f : Byte}
    (hi : exec i s = .next (s.resultThenFlag x r f)) :
    ∃ t, exec i s = .next t ∧ t.reg flagReg = f ∧ (x ≠ flagReg → t.reg x = r) ∧ OnlyRegs s t [x, flagReg] :=
  ⟨_, hi, s.resultThenFlag_flag x r f, s.resultThenFlag_result r f, onlyRegs_resultThenFlag s x r f⟩

/-- Settles O9: each of the three writes its result, then a 0. -/
theorem logicOperationsResetFlag : Obligations.LogicOperationsResetFlag :=
  fun _ _ _ => ⟨writes_result_then_flag rfl, writes_result_then_flag rfl, writes_result_then_flag rfl⟩

/-- Settles O10: the sum of the bytes is the full sum's low byte, and the carry is read off the full sum. -/
theorem addRegistersCarry : Obligations.AddRegistersCarry := by
  intro x y s
  obtain ⟨t, ht, hflag, hresult, hframe⟩ := writes_result_then_flag (i := .addReg x y) (s := s) rfl
  refine ⟨t, ht, hflag.trans (flagOf_decide _), fun hx => ?_, hframe⟩
  rw [hresult hx, BitVec.toNat_add]

/-! ## The flag, then the result (R167 to R170) -/

/-- What an instruction that writes its flag and then its result does: the result always remains. -/
theorem writes_flag_then_result {i : Instr} {s : State} {x : Nibble} {r f : Byte}
    (hi : exec i s = .next (s.flagThenResult x r f)) :
    ∃ t, exec i s = .next t ∧ t.reg x = r ∧ (x ≠ flagReg → t.reg flagReg = f) ∧ OnlyRegs s t [x, flagReg] :=
  ⟨_, hi, s.flagThenResult_result x r f, s.flagThenResult_flag r f, onlyRegs_flagThenResult s x r f⟩

/-- SUB and SUBN differ only in which latched operand is `a` and which is `b`. -/
theorem subtracts {i : Instr} {s : State} {x : Nibble} {a b : Byte}
    (hi : exec i s = .next (s.flagThenResult x (a - b) (noBorrowFlag a b))) :
    ∃ t, exec i s = .next t ∧ (t.reg x).toNat = (a.toNat + 256 - b.toNat) % 256 ∧
      (x ≠ flagReg → t.reg flagReg = if a.toNat ≥ b.toNat then 1 else 0) ∧ OnlyRegs s t [x, flagReg] := by
  obtain ⟨t, ht, hresult, hflag, hframe⟩ := writes_flag_then_result hi
  refine ⟨t, ht, ?_, fun hx => (hflag hx).trans (flagOf_decide _), hframe⟩
  have := b.isLt
  rw [hresult, BitVec.toNat_sub]
  omega

/-- Settles O11: Vx − Vy and Vy − Vx. -/
theorem subtractionsBorrow : Obligations.SubtractionsBorrow :=
  fun _ _ _ => ⟨subtracts rfl, subtracts rfl⟩

theorem ushiftRight_one_toNat (a : Byte) : (a >>> 1).toNat = a.toNat / 2 := by
  rw [BitVec.toNat_ushiftRight, Nat.shiftRight_eq_div_pow, Nat.pow_one]

theorem shiftLeft_one_toNat (a : Byte) : (a <<< 1).toNat = a.toNat * 2 % 256 := by
  rw [BitVec.toNat_shiftLeft, Nat.shiftLeft_eq, Nat.pow_one]

/-- Settles O12: the result and the flag of each shift are the two parts of the latched Vy. -/
theorem shiftsOfVy : Obligations.ShiftsOfVy := by
  intro x y s
  constructor
  · obtain ⟨t, ht, hresult, hflag, hframe⟩ := writes_flag_then_result (i := .shr x y) (s := s) rfl
    exact ⟨t, ht, hresult ▸ ushiftRight_one_toNat _, fun hx => hflag hx ▸ lowBitFlag_toNat _, hframe⟩
  · obtain ⟨t, ht, hresult, hflag, hframe⟩ := writes_flag_then_result (i := .shl x y) (s := s) rfl
    exact ⟨t, ht, hresult ▸ shiftLeft_one_toNat _, fun hx => hflag hx ▸ highBitFlag_toNat _, hframe⟩

end Sys2Proof.Machine
end

section
/-!
PROOFS. Index register and memory (spec/43_index_memory.md R180 to R186): three instructions write I alone; past their
checks, two store a run of bytes at I and one loads a run of registers from there.
-/

namespace Sys2Proof.Machine

variable (s : State)

/-! ## The index register (R180 to R182) -/

theorem onlyI_setI (w : Word) : OnlyI s (s.setI w) := ⟨rfl, fun _ => rfl⟩

theorem add_zextByte_toNat (w : Word) (b : Byte) : (w + zextByte b).toNat = (w.toNat + b.toNat) % 65536 := by
  have := b.isLt
  simp only [zextByte, BitVec.toNat_add, BitVec.toNat_setWidth]
  omega

theorem glyphAddress_toNat {c : Config} {b : Byte} (h : c.glyphScale * b.toNat < 65536) :
    (glyphAddress c b).toNat = c.glyphScale * b.toNat := by
  rw [glyphAddress, if_pos h, BitVec.toNat_ofNat, Nat.mod_eq_of_lt h]

/-- Settles O20: one write of I. -/
theorem loadIndex : Obligations.LoadIndex :=
  fun nnn s => ⟨s.setI (zextAddr nnn), rfl, zextAddr_toNat nnn, onlyI_setI s _⟩

/-- Settles O21: one write of I, of the 16-bit sum. -/
theorem addToIndex : Obligations.AddToIndex :=
  fun x s => ⟨s.setI (s.i + zextByte (s.reg x)), rfl, add_zextByte_toNat s.i _, onlyI_setI s _⟩

/-- Settles O22: one write of I, whatever the product is; below 65536 the product is the value written. -/
theorem fontGlyphAddress : Obligations.FontGlyphAddress :=
  fun x s => ⟨s.setI (glyphAddress s.cfg (s.reg x)), rfl, onlyI_setI s _, glyphAddress_toNat⟩

/-! ## Stores (R183, R184) -/

theorem onlyMemory_storeBytes (base : Nat) (bytes : List Byte) :
    OnlyMemory s (s.storeBytes base bytes) base bytes.length :=
  ⟨rfl, fun _ => s.readByte_storeBytes_outside bytes⟩

/-- What an instruction that stores `bytes` at I does where its check passes (R66). -/
theorem stores_bytes {i : Instr} {s : State} {bytes : List Byte} {len : Nat}
    (hi : exec i s = guarded (writeTrap s.cfg s.base len) (encode i) s (s.storeBytes s.base bytes))
    (hlen : bytes.length = len) (hm : s.memCanonical) (hend : s.i.toNat + len ≤ 4096)
    (hlow : 0x200 ≤ s.i.toNat ∨ s.cfg.lowmemWrite = .allow) :
    ∃ t, exec i s = .next t ∧ (∀ k (hk : k < bytes.length), t.readByte (s.i.toNat + k) = bytes[k]) ∧
      OnlyMemory s t s.i.toNat len := by
  subst hlen
  have hcheck : writeTrap s.cfg s.base bytes.length = none := writeTrap_none.mpr ⟨.inr hend, hlow⟩
  rw [hcheck, guarded_none] at hi
  exact ⟨_, hi, fun k hk => s.readByte_storeBytes_inside hk hm hend, onlyMemory_storeBytes s _ bytes⟩

/-- A decimal digit fits the byte it is stored in. -/
theorem ofNat_digit_toNat {d : Nat} (h : d < 10) : (BitVec.ofNat 8 d).toNat = d := by
  rw [BitVec.toNat_ofNat, Nat.mod_eq_of_lt (by omega)]

/-- Settles O23: a store of the three digits. -/
theorem bcdDigitsStored : Obligations.BcdDigitsStored := by
  intro x s hm hend hlow
  obtain ⟨t, ht, hbytes, hframe⟩ := stores_bytes (i := .ldB x) rfl (bcdDigits_length _) hm (by omega) hlow
  have hhundreds : t.readByte s.i.toNat = BitVec.ofNat 8 ((s.reg x).toNat / 100) := hbytes 0 (by decide : 0 < 3)
  have htens : t.readByte (s.i.toNat + 1) = BitVec.ofNat 8 ((s.reg x).toNat / 10 % 10) := hbytes 1 (by decide : 1 < 3)
  have hones : t.readByte (s.i.toNat + 2) = BitVec.ofNat 8 ((s.reg x).toNat % 10) := hbytes 2 (by decide : 2 < 3)
  have hbyte := (s.reg x).isLt
  refine ⟨t, ht, ?_, ?_, ?_, hframe⟩
  · rw [hhundreds, ofNat_digit_toNat (by omega)]
  · rw [htens, ofNat_digit_toNat (by omega)]
  · rw [hones, ofNat_digit_toNat (by omega)]

/-- Settles O24: a store of V0..Vx. -/
theorem registerDump : Obligations.RegisterDump := by
  intro x s hm hend hlow
  obtain ⟨t, ht, hbytes, hframe⟩ := stores_bytes (i := .ldMemVx x) rfl (s.regRun_length x) hm (by omega) hlow
  refine ⟨t, ht, fun j hj => ?_, hframe⟩
  have hlt : j.toNat < (s.regRun x).length := s.regRun_length x ▸ Nat.lt_succ_of_le hj
  exact (hbytes j.toNat hlt).trans (s.regRun_getElem hlt j.isLt)

/-! ## Loads (R185) -/

/-- The state after V0..Vx are loaded from I, I + 1, …. -/
def State.loadRegs (s : State) (x : Nibble) : State :=
  s.setRegs (loadRun s.v 0 (s.readBytes s.base (x.toNat + 1)))

theorem exec_ldVxMem_of_inRange {x : Nibble} (h : s.i.toNat + x.toNat ≤ 4095) :
    exec (.ldVxMem x) s = .next (s.loadRegs x) := by
  have hcheck : readTrap s.base (x.toNat + 1) = none := readTrap_none.mpr (.inr (Nat.succ_le_succ h))
  simp only [exec, execLdVxMem, hcheck, guarded_none]
  rfl

theorem State.loadRegs_reg (x j : Nibble) :
    (s.loadRegs x).reg j = if j.toNat ≤ x.toNat then s.readByte (s.i.toNat + j.toNat) else s.reg j := by
  have hrun : 0 ≤ j.toNat ∧ j.toNat < 0 + (s.readBytes s.base (x.toNat + 1)).length ↔ j.toNat ≤ x.toNat := by
    rw [State.readBytes_length]
    omega
  refine (loadRun_getElem _ s.v 0 j.toNat j.isLt).trans ?_
  simp only [hrun, State.readBytes_getElem]
  rfl

/-- Settles O25: a load of V0..Vx, which leaves the registers above x alone. -/
theorem registerLoad : Obligations.RegisterLoad := by
  intro x s hend
  refine ⟨s.loadRegs x, exec_ldVxMem_of_inRange s hend, fun j hj => ?_, fun j hj => ?_, rfl, fun _ => rfl⟩
  · rw [State.loadRegs_reg, if_pos hj]
  · rw [State.loadRegs_reg, if_neg hj.not_ge]

/-- Settles O26: the dump leaves I alone, so the load reads the bytes that it stored. -/
theorem dumpThenLoadRoundTrip : Obligations.DumpThenLoadRoundTrip := by
  intro x s hm hend hlow
  obtain ⟨t, ht, hbytes, hframe, -⟩ := registerDump x s hm hend hlow
  have hi : t.i = s.i := (congrArg State.i hframe :)
  refine ⟨t, ht, fun regs => ?_⟩
  obtain ⟨w, hw, hloaded, habove, -⟩ := registerLoad x { t with v := regs } (hi ▸ hend)
  refine ⟨w, hw, fun j hj => ?_, habove⟩
  calc w.reg j = t.readByte (t.i.toNat + j.toNat) := hloaded j hj
    _ = t.readByte (s.i.toNat + j.toNat) := by rw [hi]
    _ = s.reg j := hbytes j hj

end Sys2Proof.Machine
end

section
/-!
PROOFS. The display instructions (spec/44_display.md R200 to R202).

The pixel loops of a draw toggle a list of cells in order (`drawSprite_readBytes`). No cell is in the list twice
(`spritePixels_nodup`), so each is toggled at most once and a collision is a matter of the display before the draw; and
a cell is in the list exactly when the sprite has a 1 bit there (`mem_spritePixels`).
-/

namespace Sys2Proof.Machine

/-! ## Toggling a list of cells -/

/-- The set sprite bits that fall on the cells `ps`, one after another (R201). -/
def drawPixels (ps : List (Fin 32 × Fin 64)) (acc : Canvas) : Canvas :=
  ps.foldl (fun acc p => drawPixel p.1 p.2 acc) acc

section
variable (p : Fin 32 × Fin 64) (ps qs : List (Fin 32 × Fin 64)) (acc : Canvas)

@[simp] theorem drawPixels_nil : drawPixels [] acc = acc := rfl

@[simp] theorem drawPixels_cons : drawPixels (p :: ps) acc = drawPixels ps (drawPixel p.1 p.2 acc) := rfl

theorem drawPixels_append : drawPixels (ps ++ qs) acc = drawPixels qs (drawPixels ps acc) :=
  List.foldl_append

end

/-- Cells that occur once each are toggled, and no other cell is. -/
theorem drawPixels_cell {ps : List (Fin 32 × Fin 64)} (h : ps.Nodup) (acc : Canvas) (r : Fin 32) (c : Fin 64) :
    (drawPixels ps acc).1.cell r c = (acc.1.cell r c != decide ((r, c) ∈ ps)) := by
  induction ps generalizing acc with
  | nil => simp
  | cons p ps ih =>
    obtain ⟨hp, hps⟩ := List.nodup_cons.mp h
    rw [drawPixels_cons, ih hps, drawPixel, Display.cell_toggle]
    by_cases heq : (r, c) = p
    · subst heq
      simp [hp]
    · have hne : ¬ (r = p.1 ∧ c = p.2) := fun ⟨hr, hc⟩ => heq (Prod.ext hr hc)
      simp [hne, heq]

/-- With cells that occur once each, a collision is a cell set before the first of them is toggled. -/
theorem drawPixels_collision {ps : List (Fin 32 × Fin 64)} (h : ps.Nodup) (acc : Canvas) :
    (drawPixels ps acc).2 = true ↔ acc.2 = true ∨ ∃ p ∈ ps, acc.1.cell p.1 p.2 = true := by
  induction ps generalizing acc with
  | nil => simp
  | cons p ps ih =>
    obtain ⟨hp, hps⟩ := List.nodup_cons.mp h
    have hkept : ∀ q ∈ ps, (acc.1.toggle p.1 p.2).cell q.1 q.2 = acc.1.cell q.1 q.2 := fun q hq => by
      rw [Display.cell_toggle, if_neg fun ⟨hr, hc⟩ => hp (Prod.ext hr hc ▸ hq)]
    have hrest : (∃ q ∈ ps, (acc.1.toggle p.1 p.2).cell q.1 q.2 = true) ↔
        ∃ q ∈ ps, acc.1.cell q.1 q.2 = true :=
      exists_congr fun q => and_congr_right fun hq => by rw [hkept q hq]
    rw [drawPixels_cons, ih hps]
    simp only [drawPixel, hrest, Bool.or_eq_true, List.exists_mem_cons_iff, or_assoc]

/-! ## The cells of a sprite -/

/-- The cells that sprite row `b`, drawn from column `vx` in display row `r`, toggles, from left to right (D14). -/
def rowPixels (vx : Byte) (r : Fin 32) (b : Byte) : List (Fin 32 × Fin 64) :=
  ((List.range 8).filter fun col => b.getLsbD (7 - col)).map fun col => (r, pixelCol vx col)

/-- The cells that the sprite of `n` rows at I toggles, from top to bottom. -/
def spritePixels (s : State) (vx vy : Byte) (n : Nat) : List (Fin 32 × Fin 64) :=
  (List.range n).flatMap fun row => rowPixels vx (pixelRow vy row) (s.readByte (s.base + row))

theorem drawRow_eq_drawPixels (vx : Byte) (r : Fin 32) (b : Byte) (acc : Canvas) :
    drawRow vx r b acc = drawPixels (rowPixels vx r b) acc := by
  rw [drawPixels, rowPixels, List.foldl_map, List.foldl_filter]
  rfl

theorem drawRows_range' (vx vy : Byte) (f : Nat → Byte) (n row : Nat) (acc : Canvas) :
    drawRows vx vy row ((List.range' row n).map f) acc =
      drawPixels ((List.range' row n).flatMap fun k => rowPixels vx (pixelRow vy k) (f k)) acc := by
  induction n generalizing row acc with
  | zero => rfl
  | succ n ih =>
    rw [List.range'_succ, List.map_cons, List.flatMap_cons, drawPixels_append, ← drawRow_eq_drawPixels]
    exact ih (row + 1) _

theorem drawSprite_readBytes (s : State) (vx vy : Byte) (n : Nat) (d : Display) :
    drawSprite vx vy (s.readBytes s.base n) d = drawPixels (spritePixels s vx vy n) (d, false) := by
  rw [drawSprite, State.readBytes, Memory.readRun, spritePixels, List.range_eq_range']
  exact drawRows_range' vx vy _ n 0 _

/-! A cell's distance from the start position, modulo 32 or 64, is the pixel row or column that falls on it (D15). -/

theorem pixelRow_eq_iff {vy : Byte} {row : Nat} (h : row < 32) {r : Fin 32} :
    pixelRow vy row = r ↔ (r.val + 32 - vy.toNat % 32) % 32 = row := by
  simp only [Fin.ext_iff, pixelRow]
  omega

theorem pixelCol_eq_iff {vx : Byte} {col : Nat} (h : col < 64) {c : Fin 64} :
    pixelCol vx col = c ↔ (c.val + 64 - vx.toNat % 64) % 64 = col := by
  simp only [Fin.ext_iff, pixelCol]
  omega

theorem mem_rowPixels {vx b : Byte} {r r' : Fin 32} {c : Fin 64} :
    (r', c) ∈ rowPixels vx r b ↔ r = r' ∧ ∃ col < 8, b.getLsbD (7 - col) = true ∧ pixelCol vx col = c := by
  simp only [rowPixels, List.mem_map, List.mem_filter, List.mem_range, Prod.mk.injEq]
  constructor
  · rintro ⟨col, ⟨hcol, hbit⟩, hr, hc⟩
    exact ⟨hr, col, hcol, hbit, hc⟩
  · rintro ⟨hr, col, hcol, hbit, hc⟩
    exact ⟨col, ⟨hcol, hbit⟩, hr, hc⟩

theorem rowPixels_nodup (vx : Byte) (r : Fin 32) (b : Byte) : (rowPixels vx r b).Nodup := by
  refine (List.nodup_range.filter _).map_on fun i hi j hj hij => ?_
  have hi8 : i < 8 := List.mem_range.mp (List.mem_filter.mp hi).1
  have hj8 : j < 8 := List.mem_range.mp (List.mem_filter.mp hj).1
  have hcol : pixelCol vx i = pixelCol vx j := (Prod.mk.inj hij).2
  exact ((pixelCol_eq_iff (by omega)).mp hcol).symm.trans ((pixelCol_eq_iff (by omega)).mp rfl)

/-- At most 15 rows of 8 pixels do not wrap onto themselves. -/
theorem spritePixels_nodup (s : State) (vx vy : Byte) (n : Nibble) : (spritePixels s vx vy n.toNat).Nodup := by
  refine List.nodup_flatMap.mpr ⟨fun row _ => rowPixels_nodup vx _ _, ?_⟩
  refine List.nodup_range.pairwise_of_forall_ne fun i hi j hj hij => ?_
  rintro ⟨r, c⟩ hci hcj
  have hir : pixelRow vy i = r := (mem_rowPixels.mp hci).1
  have hjr : pixelRow vy j = r := (mem_rowPixels.mp hcj).1
  rw [List.mem_range] at hi hj
  rw [pixelRow_eq_iff (by omega)] at hir hjr
  exact hij (hir.symm.trans hjr)

theorem mem_spritePixels {s : State} {vx vy : Byte} {n : Nibble} {r : Fin 32} {c : Fin 64} :
    (r, c) ∈ spritePixels s vx vy n.toNat ↔ spriteBit s vx vy n r c = true := by
  have hn := n.isLt
  simp only [spritePixels, List.mem_flatMap, List.mem_range, mem_rowPixels, spriteBit, Bool.and_eq_true,
    decide_eq_true_eq]
  constructor
  · rintro ⟨row, hrow, hr, col, hcol, hbit, hc⟩
    rw [pixelRow_eq_iff (by omega)] at hr
    rw [pixelCol_eq_iff (by omega)] at hc
    subst hr hc
    exact ⟨⟨hrow, hcol⟩, hbit⟩
  · rintro ⟨⟨hrow, hcol⟩, hbit⟩
    exact ⟨_, hrow, (pixelRow_eq_iff (by omega)).mpr rfl, _, hcol, hbit, (pixelCol_eq_iff (by omega)).mpr rfl⟩

/-- The sprite depends on I and on memory alone. -/
theorem spriteBit_congr {s t : State} (hi : t.i = s.i) (hm : SameMemory s t) : spriteBit t = spriteBit s := by
  funext vx vy n r c
  rw [spriteBit, spriteBit, hi, hm]

/-! ## Draw (R201, R202) -/

/-- The state after the sprite of `n` rows at I is drawn at (Vx, Vy). -/
def State.drawn (s : State) (x y n : Nibble) : State :=
  let canvas := drawPixels (spritePixels s (s.reg x) (s.reg y) n.toNat) (s.disp, false)
  (s.setDisp canvas.1).setReg flagReg (flagOf canvas.2)

section
variable (s : State) (x y n : Nibble)

theorem exec_drw_of_inRange (h : n = 0 ∨ s.i.toNat + n.toNat ≤ 4096) :
    exec (.drw x y n) s = .next (s.drawn x y n) := by
  have hcheck : readTrap s.base n.toNat = none := readTrap_none.mpr (h.imp_left (congrArg BitVec.toNat))
  rw [exec, execDrw, hcheck, guarded_none, drawSprite_readBytes]
  rfl

theorem State.drawn_cell (r : Fin 32) (c : Fin 64) :
    (s.drawn x y n).disp.cell r c = (s.disp.cell r c != spriteBit s (s.reg x) (s.reg y) n r c) := by
  refine (drawPixels_cell (spritePixels_nodup s _ _ n) _ r c).trans ?_
  simp only [mem_spritePixels, Bool.decide_eq_true]

theorem State.drawn_flag : (s.drawn x y n).reg flagReg =
    flagOf (decide (∃ r c, s.disp.cell r c = true ∧ spriteBit s (s.reg x) (s.reg y) n r c = true)) := by
  refine (State.reg_setReg_same _ _ _).trans (congrArg flagOf ?_)
  rw [Bool.eq_iff_iff, drawPixels_collision (spritePixels_nodup s _ _ n), decide_eq_true_eq]
  simp only [Prod.exists, mem_spritePixels, Bool.false_eq_true, false_or, and_comm]

end

/-- Settles O29: the cells the sprite's pixels fall on are toggled once each. -/
theorem drawIsXorOfSprite : Obligations.DrawIsXorOfSprite := by
  intro x y n s h
  refine ⟨s.drawn x y n, exec_drw_of_inRange s x y n h, s.drawn_cell x y n, fun hhit => ?_, fun hmiss => ?_, rfl,
    fun z hz => State.reg_setReg_ne _ (List.ne_of_not_mem_cons hz) _, fun _ => rfl⟩
  · rw [State.drawn_flag, decide_eq_true hhit]
    rfl
  · have hnone : ¬ ∃ r c, s.disp.cell r c = true ∧ spriteBit s (s.reg x) (s.reg y) n r c = true :=
      fun ⟨r, c, hset, hbit⟩ => Bool.eq_false_iff.mp (hmiss r c hset) hbit
    rw [State.drawn_flag, decide_eq_false hnone]
    rfl

/-- Settles O30: both draws XOR one sprite, and a cell set after the first draw under a sprite bit is a cell that the
first draw turned on. -/
theorem doubleDrawRestoresDisplay : Obligations.DoubleDrawRestoresDisplay := by
  intro x y n s hx hy h
  obtain ⟨t, ht, hcell, -, -, hframe, hregs, hmem⟩ := drawIsXorOfSprite x y n s h
  have hi : t.i = s.i := (congrArg State.i hframe :)
  obtain ⟨w, hw, hcell', hhit, hmiss, -⟩ := drawIsXorOfSprite x y n t (hi ▸ h)
  rw [hregs x (by simpa using hx), hregs y (by simpa using hy), spriteBit_congr hi hmem] at hcell' hhit hmiss
  have hon : (∃ r c, s.disp.cell r c = false ∧ t.disp.cell r c = true) ↔
      ∃ r c, t.disp.cell r c = true ∧ spriteBit s (s.reg x) (s.reg y) n r c = true := by
    refine exists_congr fun r => exists_congr fun c => ?_
    rw [hcell r c]
    cases s.disp.cell r c <;> simp
  refine ⟨t, w, ht, hw, Display.ext_cell fun r c => by simp [hcell' r c, hcell r c], ?_⟩
  rw [hon]
  by_cases hcollides : ∃ r c, t.disp.cell r c = true ∧ spriteBit s (s.reg x) (s.reg y) n r c = true
  · have hflag : w.reg 0xF = 1 := hhit hcollides
    exact ⟨iff_of_true hflag hcollides, .inr hflag⟩
  · have hflag : w.reg 0xF = 0 :=
      hmiss fun r c hset => Bool.eq_false_iff.mpr fun hbit => hcollides ⟨r, c, hset, hbit⟩
    exact ⟨iff_of_false (by rw [hflag]; decide) hcollides, .inl hflag⟩

/-! ## Clear (R200) -/

theorem displayPort_blank {s : State} (h : s.disp = Display.blank) : s.displayPort = List.replicate 2048 0 := by
  rw [displayPort_eq_flatten, h]
  simp [Display.blank, flagOf]

/-- Settles O28: the display is replaced by the blank one. -/
theorem clearDisplay : Obligations.ClearDisplay :=
  fun _ s => ⟨s.setDisp Display.blank, rfl, Display.cell_blank, displayPort_blank rfl, rfl, fun _ => rfl⟩

end Sys2Proof.Machine
end

section
/-!
PROOFS. Key, timer and random instructions (spec/45_keys_timers_random.md R210 to R217), and a key wait from the TICK
that begins it to the press that ends it (spec/60_exceptions.md R240, R241).
-/

namespace Sys2Proof.Machine

variable {s : State} {x : Nibble}

/-! ## A key wait (R215, R240, R241) -/

theorem fieldX_wordOfBytes (hi lo : Byte) : fieldX (wordOfBytes hi lo) = lowNibble hi := by
  refine BitVec.eq_of_getLsbD_eq fun i hi => ?_
  interval_cases i <;> simp [fieldX, wordOfBytes, fieldAt, lowNibble]

/-- The register that a completing press reads from memory is the destination of the instruction at PC. -/
theorem lowNibble_readByte_of_fetch (h : s.fetch = some (encode (.ldVxK x))) :
    lowNibble (s.readByte s.pc.toNat) = x := by
  have hword := s.fetch_some (State.pc_le_of_fetch h)
  rw [← fieldX_wordOfBytes, ← Option.some.inj (h.symm.trans hword)]
  exact fieldX_formatI 0xF x 0x0A

theorem cmdSetKey_press_at_ldVxK (id : Nibble) (hf : s.faulted = false) (hw : s.waiting = true)
    (h : s.fetch = some (encode (.ldVxK x))) :
    cmdSetKey id true s = (((s.setKey id true).setReg x (zextNibble id)).setWait false).advance := by
  rw [cmdSetKey_press_of_waiting id hf hw, completeWait, State.setKey_readByte, State.setKey_pc,
    lowNibble_readByte_of_fetch h]

theorem zextNibble_toNat (k : Nibble) : (zextNibble k).toNat = k.toNat := by
  have := k.isLt
  simp only [zextNibble, BitVec.toNat_setWidth]
  omega

/-- The first STEP of the TICK sets the flags, and the rest of the burst runs the same instruction again. -/
theorem tick_at_ldVxK (hf : s.faulted = false) (hp : s.paused = false) (hc : s.cfg.clockSpeed ≠ 0)
    (h : s.fetch = some (encode (.ldVxK x))) : tick s = .next (timerStep (s.setWait true)) := by
  have hfirst : instrStep s = .next (s.setWait true) := instrStep_of_ldVxK h (decodeWord_ldVxK x)
  have hagain : instrStep (s.setWait true) = .next (s.setWait true) :=
    instrStep_eq_self_of_sets_paused hfirst hp rfl
  obtain ⟨n, hn⟩ := Nat.exists_eq_succ_of_ne_zero hc
  rw [tick_of_awake hf hp, hn]
  simp only [runBurst, hfirst, State.setWait_faulted, hf, Bool.false_eq_true, if_false]
  exact runBurst_of_instrStep_eq_self hagain hf n

theorem tick_of_paused (hp : s.paused = true) : tick s = .next s := by
  simp [tick, hp]

/-- Settles O48: the TICK writes the two flags and the timers, so that the press still finds the instruction at PC. -/
theorem waitForKeyUntilPress : Obligations.WaitForKeyUntilPress := by
  intro x s hf hp hc h
  refine ⟨timerStep (s.setWait true), tick_at_ldVxK hf hp hc h, rfl, tick_of_paused rfl, fun id => ?_⟩
  rw [cmdSetKey_press_at_ldVxK (s := timerStep (s.setWait true)) id hf rfl h]
  refine ⟨?_, rfl, rfl, rfl⟩
  rw [State.advance_reg, State.setWait_reg, State.reg_setReg_same, zextNibble_toNat]

/-- Settles O34: the flags are written, and PC goes back to the instruction. -/
theorem waitForKeyPauses : Obligations.WaitForKeyPauses :=
  fun _ s => ⟨(s.setWait true).setPc s.instrAddr, rfl, rfl, rfl, rfl, rfl, fun _ => rfl⟩

/-! ## Key skips (R210, R211) -/

theorem guarded_keyTrap_outOfRange {b : Byte} (op : Word) (e : State) (h : 15 < b.toNat) :
    guarded (keyTrap b) op s e = .next (faultedFrom s .keyOutOfRange op b.toNat) := by
  rw [keyTrap_some h, zextTrap, ← BitVec.ofNat_toNat]
  rfl

/-- Settles O32: with Vx a key both are skips, on KEY[Vx] and on its negation; above 15 the check of both fails. -/
theorem keySkips : Obligations.KeySkips := by
  refine fun x s => ⟨fun k h => ⟨?_, ?_⟩, fun h => ⟨?_, ?_⟩⟩
  · exact skips_iff s (exec_skp_of_key h) Iff.rfl
  · exact skips_iff s (exec_sknp_of_key h) Bool.not_eq_eq_eq_not
  · exact guarded_keyTrap_outOfRange _ _ h
  · exact guarded_keyTrap_outOfRange _ _ h

/-! ## Timers (R212 to R214) -/

/-- Settles O33: each is one write, of Vx, DT or ST; the sound output is a view of ST. -/
theorem timerMoves : Obligations.TimerMoves := by
  refine fun x s => ⟨⟨s.setReg x s.dt, rfl, s.reg_setReg_same x _, onlyRegs_setReg s x _⟩, ?_, ?_⟩
  · exact ⟨s.setDt (s.reg x), rfl, rfl, rfl, fun _ => rfl⟩
  · exact ⟨s.setSt (s.reg x), rfl, rfl, bne_iff_ne, rfl, fun _ => rfl⟩

/-! ## Random (R217) -/

theorem rndWith_reg (r : Byte) (x : Nibble) (kk : Byte) (s : State) : (rndWith r x kk s).reg x = r &&& kk :=
  State.reg_setReg_same _ x _

theorem and_mask_and_not_mask (r kk : Byte) : r &&& kk &&& ~~~kk = 0 := by
  rw [BitVec.and_assoc, BitVec.and_not_self]
  exact BitVec.and_zero

/-- Settles O35: what is drawn is masked, whatever it is. -/
theorem randomIsMasked : Obligations.RandomIsMasked := by
  intro x kk s
  have hreg := rndWith_reg (Config.rndByte s.rndPos) x kk s
  refine ⟨rndWith (Config.rndByte s.rndPos) x kk s, rfl, hreg, ?_, rfl, rfl, fun y hy => ?_, fun _ => rfl⟩
  · rw [hreg, and_mask_and_not_mask]
  · exact State.reg_setReg_ne _ (List.ne_of_not_mem_cons hy) _

end Sys2Proof.Machine
end

section
/-!
PROOFS. Faults (spec/60_exceptions.md R230 to R235): what each instruction raises, what fault entry writes, and how the
faulted condition ends; then the end of a key wait and the low-activity state (R240, R241, R246).
-/

namespace Sys2Proof.Machine

/-! ## What an instruction raises (R230) -/

/-- The fault an instruction raises from `s`, if any: the rows of R230 by instruction. -/
def trapOf (s : State) : Instr → Option Trap
  | .call _ => if s.sp = 16 then some ⟨.stackOverflow, 0⟩ else none
  | .ret _ => if s.sp = 0 then some ⟨.stackUnderflow, 0⟩ else none
  | .drw _ _ n => readTrap s.base n.toNat
  | .ldB _ => writeTrap s.cfg s.base 3
  | .ldMemVx x => writeTrap s.cfg s.base (x.toNat + 1)
  | .ldVxMem x => readTrap s.base (x.toNat + 1)
  | .skp x => keyTrap (s.reg x)
  | .sknp x => keyTrap (s.reg x)
  | _ => none

section
variable (i : Instr) (s : State)

theorem State.skipIf_fault (c : Bool) : (s.skipIf c).fault = s.fault := by
  rw [State.skipIf_eq, State.setPc_fault]

theorem execCall_eq_guarded (nnn : Addr) : ∃ e,
    exec (.call nnn) s = guarded (trapOf s (.call nnn)) (encode (.call nnn)) s e ∧ e.fault = s.fault := by
  by_cases h : s.sp = 16
  · rw [exec_call_of_full s nnn (congrArg Fin.val h), trapOf, if_pos h]
    exact ⟨s, rfl, rfl⟩
  · rw [exec_call_of_free s nnn (by omega), trapOf, if_neg h]
    exact ⟨_, rfl, rfl⟩

theorem execRet_eq_guarded (ign : Nibble) : ∃ e,
    exec (.ret ign) s = guarded (trapOf s (.ret ign)) (encode (.ret ign)) s e ∧ e.fault = s.fault := by
  by_cases h : s.sp = 0
  · rw [exec_ret_of_empty s ign (congrArg Fin.val h), trapOf, if_pos h]
    exact ⟨s, rfl, rfl⟩
  · obtain ⟨k, hk⟩ : ∃ k : Fin 16, s.sp.val = k.val + 1 := ⟨⟨s.sp.val - 1, by omega⟩, by dsimp only; omega⟩
    rw [exec_ret_of_inUse s ign hk, trapOf, if_neg h]
    exact ⟨_, rfl, rfl⟩

/-- Every instruction is a guarded one: it raises its fault, or has an effect that leaves the latch alone. -/
theorem exec_eq_guarded : ∃ e, exec i s = guarded (trapOf s i) (encode i) s e ∧ e.fault = s.fault := by
  cases i with
  | call nnn => exact execCall_eq_guarded s nnn
  | ret ign => exact execRet_eq_guarded s ign
  | skp | sknp | seImm | sneImm | seReg | sneReg => exact ⟨_, rfl, s.skipIf_fault _⟩
  | _ => exact ⟨_, rfl, rfl⟩

end

/-- From an unfaulted state, a faulted next state is the entry of the fault that the instruction raises. -/
theorem eq_raise_of_exec_faulted {i : Instr} {s t : State} (hf : s.faulted = false) (h : exec i s = .next t)
    (ht : t.faulted = true) : ∃ u, trapOf s i = some u ∧ t = s.raise u (encode i) := by
  obtain ⟨e, hexec, he⟩ := exec_eq_guarded i s
  rcases guarded_cases s (trapOf s i) (encode i) e with ⟨-, hg⟩ | ⟨u, hu, hg⟩
  · obtain rfl : e = t := Host.Outcome.next.inj ((hexec.trans hg).symm.trans h)
    have hsame : e.faulted = s.faulted := congrArg (fun f : FaultLatch => f.cause.isSome) he
    rw [hsame, hf] at ht
    cases ht
  · exact ⟨u, hu, Host.Outcome.next.inj (h.symm.trans (hexec.trans hg))⟩

/-- Settles O36: a faulted next state is a fault entry, which writes PC and the latch. -/
theorem faultEntryIsPrecise : Obligations.FaultEntryIsPrecise := by
  intro i s t hf h ht
  obtain ⟨u, -, rfl⟩ := eq_raise_of_exec_faulted hf h ht
  exact ⟨rfl, rfl, rfl⟩

/-! ## The conditions of the causes (R230, R233) -/

section
variable {base len : Nat} {u : Trap}

theorem of_readTrap_eq_some (h : readTrap base len = some u) :
    len ≠ 0 ∧ 4096 < base + len ∧ u = ⟨.addressOutOfRange, firstBad base⟩ := by
  have hout : ¬ (len = 0 ∨ base + len ≤ 4096) := fun hin => by
    rw [readTrap_none.mpr hin] at h
    cases h
  obtain ⟨hlen, hend⟩ := not_or.mp hout
  have hend' : 4096 < base + len := Nat.lt_of_not_le hend
  exact ⟨hlen, hend', Option.some.inj (h.symm.trans (readTrap_some hlen hend'))⟩

theorem of_writeTrap_eq_some {c : Config} (h : writeTrap c base len = some u) :
    (4096 < base + len ∧ u = ⟨.addressOutOfRange, firstBad base⟩) ∨
    (base < 0x200 ∧ c.lowmemWrite = .fault ∧ u = ⟨.reservedWrite, BitVec.ofNat 17 base⟩) := by
  unfold writeTrap at h
  split at h
  · next v hv =>
    cases h
    exact .inl (of_readTrap_eq_some hv).2
  · split at h
    · next hlow =>
      obtain ⟨hbase, hpolicy⟩ := hlow
      cases h
      exact .inr ⟨hbase, hpolicy, rfl⟩
    · cases h

theorem of_keyTrap_eq_some {b : Byte} (h : keyTrap b = some u) : 15 < b.toNat ∧ u = ⟨.keyOutOfRange, zextTrap b⟩ := by
  have hb : 15 < b.toNat := by
    by_contra hle
    rw [keyTrap_none.mpr (Nat.le_of_not_lt hle)] at h
    cases h
  exact ⟨hb, Option.some.inj (h.symm.trans (keyTrap_some hb))⟩

end

/-! FAULT.addr has 17 bits, and every address recorded in it fits. -/

theorem State.firstBad_base_toNat (s : State) : (firstBad s.base).toNat = max s.i.toNat 4096 := by
  have := s.i.isLt
  simp only [firstBad, State.base, Config.memSize, BitVec.toNat_ofNat]
  omega

theorem State.ofNat_base_toNat (s : State) : (BitVec.ofNat 17 s.base).toNat = s.i.toNat := by
  have := s.i.isLt
  simp only [State.base, BitVec.toNat_ofNat]
  omega

theorem zextTrap_toNat (b : Byte) : (zextTrap b).toNat = b.toNat :=
  BitVec.toNat_setWidth_of_le (by decide)

/-- Settles O37: by the instructions that raise anything, each with the check it makes. -/
theorem faultCausesAreTheTable : Obligations.FaultCausesAreTheTable := by
  intro i s t c hf h hc
  obtain ⟨u, hu, rfl⟩ := eq_raise_of_exec_faulted hf h (by rw [State.faulted, hc]; rfl)
  obtain rfl : u.cause = c := Option.some.inj hc
  cases i with
  | drw x y n =>
    obtain ⟨hn, hend, rfl⟩ := of_readTrap_eq_some hu
    exact ⟨.inl ⟨x, y, n, rfl, fun h0 => hn (congrArg BitVec.toNat h0), hend⟩, s.firstBad_base_toNat⟩
  | ldVxMem x =>
    obtain ⟨-, hend, rfl⟩ := of_readTrap_eq_some hu
    exact ⟨.inr (.inr ⟨x, .inr rfl, Nat.lt_of_succ_lt_succ hend⟩), s.firstBad_base_toNat⟩
  | ldMemVx x =>
    obtain ⟨hend, rfl⟩ | ⟨hlow, hpolicy, rfl⟩ := of_writeTrap_eq_some hu
    · exact ⟨.inr (.inr ⟨x, .inl rfl, Nat.lt_of_succ_lt_succ hend⟩), s.firstBad_base_toNat⟩
    · exact ⟨⟨x, .inr rfl⟩, hlow, hpolicy, s.ofNat_base_toNat⟩
  | ldB x =>
    obtain ⟨hend, rfl⟩ | ⟨hlow, hpolicy, rfl⟩ := of_writeTrap_eq_some hu
    · exact ⟨.inr (.inl ⟨x, rfl, Nat.lt_of_succ_lt_succ hend⟩), s.firstBad_base_toNat⟩
    · exact ⟨⟨x, .inl rfl⟩, hlow, hpolicy, s.ofNat_base_toNat⟩
  | skp x =>
    obtain ⟨hkey, rfl⟩ := of_keyTrap_eq_some hu
    exact ⟨x, .inl rfl, hkey, zextTrap_toNat _⟩
  | sknp x =>
    obtain ⟨hkey, rfl⟩ := of_keyTrap_eq_some hu
    exact ⟨x, .inr rfl, hkey, zextTrap_toNat _⟩
  | call nnn =>
    obtain ⟨hsp, ⟨⟩⟩ := Option.ite_none_right_eq_some.mp hu
    exact ⟨⟨nnn, rfl⟩, congrArg Fin.val hsp, rfl⟩
  | ret ign =>
    obtain ⟨hsp, ⟨⟩⟩ := Option.ite_none_right_eq_some.mp hu
    exact ⟨⟨ign, rfl⟩, congrArg Fin.val hsp, rfl⟩
  | _ => cases hu

/-! ## The way out of the faulted condition (R234, R235) -/

theorem tick_of_faulted {s : State} (hf : s.faulted = true) : tick s = .next s := by
  simp [tick, hf]

/-- LOAD is RESET but for memory and the status it returns (R272). -/
theorem cmdLoad_eq_cmdReset (program : List Byte) (s : State) :
    ∃ m r, cmdLoad program s = { cmdReset s with mem := m, loadStatus := r } := by
  rcases cmdLoad_cases program s with ⟨-, h⟩ | h <;> exact ⟨_, _, h⟩

theorem cmdLoad_fault (program : List Byte) (s : State) : (cmdLoad program s).fault = FaultLatch.clear := by
  obtain ⟨m, r, h⟩ := cmdLoad_eq_cmdReset program s
  rw [h]
  rfl

/-- Settles O39: TICK and SET_KEY test the latch first, RESET clears it, and LOAD resets. -/
theorem faultedCoreWaitsForReset : Obligations.FaultedCoreWaitsForReset :=
  fun s hf => ⟨tick_of_faulted hf, fun id pressed => cmdSetKey_of_faulted id pressed hf, rfl,
    fun program => cmdLoad_fault program s⟩

/-! ## The end of a key wait (R240, R241) -/

/-- Settles O49: the press writes one key, the register that the instruction at PC names, the two flags and PC. -/
theorem keyPressCompletesWait : Obligations.KeyPressCompletesWait := by
  intro x id s hf hw h t
  have ht : t = (((s.setKey id true).setReg x (zextNibble id)).setWait false).advance :=
    cmdSetKey_press_at_ldVxK id hf hw h
  have hkey : ∀ k, t.keyDown k = if k = id then true else s.keyDown k := fun k => cmdSetKey_keyDown id k true hf
  refine ⟨?_, fun y hy => ?_, (hkey id).trans (if_pos rfl), fun k hk => (hkey k).trans (if_neg hk), ?_, fun _ => ?_⟩
  · rw [ht, State.advance_reg, State.setWait_reg, State.reg_setReg_same, zextNibble_toNat]
  · rw [ht, State.advance_reg, State.setWait_reg, State.reg_setReg_ne _ (List.ne_of_not_mem_cons hy), State.setKey_reg]
  · rw [ht]
    rfl
  · rw [ht]
    rfl

/-! ## The low-activity state (R246) -/

theorem cmdLoad_wait (program : List Byte) (s : State) :
    (cmdLoad program s).paused = false ∧ (cmdLoad program s).waiting = false := by
  obtain ⟨m, r, h⟩ := cmdLoad_eq_cmdReset program s
  rw [h]
  exact ⟨rfl, rfl⟩

theorem cmdSetKey_press_wait {s : State} (hf : s.faulted = false) (hw : s.waiting = true) (id : Nibble) :
    (cmdSetKey id true s).paused = false ∧ (cmdSetKey id true s).waiting = false := by
  rw [cmdSetKey_press_of_waiting id hf hw]
  exact ⟨rfl, rfl⟩

theorem cmdSetKey_release_wait {s : State} (hf : s.faulted = false) (id : Nibble) :
    (cmdSetKey id false s).paused = s.paused ∧ (cmdSetKey id false s).waiting = s.waiting := by
  rw [cmdSetKey_of_no_wake id hf (.inr rfl)]
  exact ⟨rfl, rfl⟩

/-- An instruction that changes PAUSED or WAITING is wait-for-key, which sets both. -/
theorem ldVxK_of_changes_wait {i : Instr} {s t : State} (h : exec i s = .next t)
    (hne : t.paused ≠ s.paused ∨ t.waiting ≠ s.waiting) :
    (∃ x, i = .ldVxK x) ∧ t.paused = true ∧ t.waiting = true := by
  by_cases hi : ∃ x, i = .ldVxK x
  · obtain ⟨x, rfl⟩ := hi
    cases h
    exact ⟨⟨x, rfl⟩, rfl, rfl⟩
  · obtain ⟨hp, hw⟩ := exec_wait_frame h fun x hx => hi ⟨x, hx⟩
    exact absurd hne (not_or.mpr ⟨not_not.mpr hp, not_not.mpr hw⟩)

/-- Settles O51: the way in is one instruction; while both flags are 1, TICK and a release keep them, and a press,
RESET and LOAD clear them. -/
theorem keyWaitIsTheOneLowActivityState : Obligations.KeyWaitIsTheOneLowActivityState := by
  refine ⟨fun x s => ⟨_, rfl, rfl, rfl⟩, fun i s t => ldVxK_of_changes_wait, fun s hf hp hw => ?_⟩
  refine ⟨tick_of_paused hp, fun id => ?_, cmdSetKey_press_wait hf hw, rfl, rfl, fun program => cmdLoad_wait program s⟩
  obtain ⟨hp', hw'⟩ := cmdSetKey_release_wait hf id
  exact ⟨hp'.trans hp, hw'.trans hw⟩

end Sys2Proof.Machine
end

section
/-!
PROOFS. RESET, LOAD and power-on (spec/70_reset_and_hazards.md R270 to R272, spec/10_state.md R40).

Memory is data over a background, the font table and then zeros (log 10). RESET lists no byte over it, LOAD
the program, and power-on 80 zeros over the font; the last two are read back by the rules of a run of stored bytes,
inside the run and outside it.
-/

namespace Sys2Proof.Machine

/-! ## The background of memory (R24, R30) -/

theorem resetByte_font (c : Config) (j : Fin 80) : c.resetByte j.val = c.fontTable[j] :=
  dif_pos j.isLt

theorem resetByte_above_font (c : Config) {a : Nat} (h : 80 ≤ a) : c.resetByte a = 0 :=
  dif_neg h.not_gt

/-! ## LOAD (R272) -/

section
variable {program : List Byte} (s : State)

/-- Copying a program that fits does not look at the status, so the status can be set first. -/
theorem cmdLoad_of_fits (h : program.length ≤ 3584) :
    cmdLoad program s = ((cmdReset s).setLoadStatus .ok).storeBytes 0x200 program :=
  if_pos (decide_eq_true h)

theorem cmdLoad_of_overflow (h : 3584 < program.length) :
    cmdLoad program s = (cmdReset s).setLoadStatus .loadOverflow :=
  if_neg fun hfits => h.not_ge (of_decide_eq_true hfits)

end

/-- Settles O53: a program that fits ends below 4096 and is a run of bytes stored over the reset memory, so it reads back
and the rest of memory is untouched; a longer one is not stored at all. -/
theorem loadPlacesProgram : Obligations.LoadPlacesProgram := by
  refine fun program s => ⟨fun hfits => ?_, cmdLoad_of_overflow s⟩
  have hend : 0x200 + program.length ≤ 4096 := Nat.add_le_add_left hfits 0x200
  rw [cmdLoad_of_fits s hfits]
  exact ⟨rfl, fun j hj => State.readByte_storeBytes_inside _ hj Memory.wf_nil hend, onlyMemory_storeBytes _ _ _⟩

/-! ## RESET (R271) -/

/-- Settles O52: memory reads as its background; every other element is a constant of the reset state or is carried
over. -/
theorem resetValues : Obligations.ResetValues := by
  refine fun s => ⟨fun _ => Vector.getElem_replicate _, rfl, rfl, rfl, fun _ => Vector.getElem_replicate _, rfl, rfl,
    fun _ => Vector.getElem_replicate _, Display.cell_blank, rfl, rfl, rfl, fun j => ?_, fun a ha _ => ?_, rfl, rfl, rfl⟩
  · rw [cmdReset_readByte, resetByte_font]
  · rw [cmdReset_readByte, resetByte_above_font s.cfg ha]

/-! ## Power-on (R270) -/

theorem powerOn_readByte_eq_storeBytes (a : Nat) :
    State.powerOn.readByte a = (State.reset.storeBytes 0 (List.replicate 80 0)).readByte a := rfl

/-- The zeros stored at power-on cover the font, and above it memory is zero anyway. -/
theorem powerOn_readByte (a : Nat) : State.powerOn.readByte a = 0 := by
  have hlen : (List.replicate 80 (0 : Byte)).length = 80 := List.length_replicate
  rw [powerOn_readByte_eq_storeBytes]
  rcases lt_or_ge a 80 with ha | ha
  · have hin := State.readByte_storeBytes_inside State.reset (base := 0) (hlen.symm ▸ ha) Memory.wf_nil (by decide)
    rwa [Nat.zero_add, List.getElem_replicate] at hin
  · rw [State.readByte_storeBytes_outside _ _ (.inr (by rwa [hlen, Nat.zero_add]))]
    exact resetByte_above_font Config.default ha

/-- Settles O54: every element but memory is as the power-on state is written, and memory reads zero throughout. -/
theorem powerOnIsZero : Obligations.PowerOnIsZero :=
  ⟨fun a _ => powerOn_readByte a, fun _ => Vector.getElem_replicate _, rfl, rfl, rfl,
    fun _ => Vector.getElem_replicate _, rfl, rfl, fun _ => Vector.getElem_replicate _, Display.cell_blank,
    rfl, rfl, rfl, rfl, rfl⟩

end Sys2Proof.Machine
end
